-- ==== Sys2Proof/Word.lean ====
section
/-! DEFINITION. The word and number types of the SQ424: bytes and two-byte fields of a frame, line
sets and lane sets, and the numbers of lanes, lines, slots and trigger inputs. -/

namespace Sys2Proof

/-- One byte of a frame (R174). -/
abbrev Byte := BitVec 8

/-- A two-byte field of a frame, and a serial number, which wraps after 65535 (R40, R174). -/
abbrev Half := BitVec 16

/-- A set of lines: bit n is line Ln (R174). -/
abbrev LineSet := BitVec 24

/-- A set of lanes: bit n is lane n (R174). A lane set that names a lane above 3 never gets past the
general checks (R160), so only the four low bits of its byte are kept. -/
abbrev LaneSet := BitVec 4

/-- A lane, 0 to 3. -/
abbrev LaneNo := Fin 4

/-- An output line, L0 to L23. -/
abbrev LineNo := Fin 24

/-- A slot of the sequence library, 0 to 31. -/
abbrev SlotNo := Fin 32

/-- A trigger input, TRG0 to TRG3. -/
abbrev TrigNo := Fin 4

end Sys2Proof
end

