-- ==== Sys2Proof/Config.lean ====
section
/-! DEFINITION. What is fixed for every SQ424 (the capacities and bounds the manual states) and the one
source of free values. -/

namespace Sys2Proof.Config

/-- THE FREE VALUE. Where the manual says that events of one instant are taken in either order, or fixes an
instant only by a bound, the choice is this constant applied to the counter `State.draws`. It has no
body: nothing can be proved about which choice it makes (log entry 3). -/
opaque freeChoice : Nat → Nat

/-- Steps the sequence library holds in total (R55). -/
def librarySteps : Nat := 512

/-- Slots of the sequence library (R54). -/
def librarySlots : Nat := 32

/-- Longest sequence (R57). -/
def longestSequence : Nat := 64

/-- Entries a lane's queue holds (R41). -/
def queueDepth : Nat := 16

/-- Frames the inbound queue holds (R149). -/
def inboundDepth : Nat := 4

/-- Messages the outbound queue holds, a reservation included (R151, R158). -/
def outboundDepth : Nat := 8

/-- A report is admitted only while fewer messages than this are held (R152). -/
def reportLimit : Nat := 6

/-- Largest value of a link error counter (R150). -/
def counterMax : Nat := 65535

/-- Largest value of the report-loss counter (R152). -/
def lossMax : Nat := 255

/-- Base periods in one unit of the keepalive window, 10 ms (R153). -/
def keepaliveUnit : Nat := 100000

/-- Largest keepalive window (R154). -/
def windowMax : Nat := 6000

/-- Base periods of a sync pulse, 2 µs (R127). -/
def pulseLength : Nat := 20

/-- Base periods for which TRG0 to TRG3 and SYNC_N must hold a level before their filters take it, 0.2 µs (R94, R124). -/
def edgeFilter : Nat := 2

/-- Base periods for which KILL_N must hold a level before its filter takes it, 1 µs (R135). -/
def killFilter : Nat := 10

/-- Base periods from the release of RST_N to the start-up event, 1 ms (R166). -/
def startUpDelay : Nat := 10000

/-- Base periods within which a command is completed, 50 µs (R159). -/
def commandBound : Nat := 500

/-- Base periods within which APPEND_SEQ is completed, 400 µs (R60, R159). -/
def appendBound : Nat := 4000

/-- Base periods in one second: CLKIN is 10 MHz (Table 0-3). -/
def basePerSecond : Nat := 10000000

end Sys2Proof.Config
end

