-- ==== Sys2Proof/Syntax.lean ====
section
/-! DEFINITION. The commands and events of the SQ424: one constructor of `Instr` for each row of the opcode
table, with the operands its rule gives it. A field of a command keeps the code the frame carries, since
an unlisted code is answered BAD_VALUE by the command itself (R174); Machine/Operands.lean reads the codes. -/

namespace Sys2Proof

/-- A step as a frame carries it (R175). -/
structure RawStep where
  active : LineSet
  duration : Half
  advance : Byte
deriving DecidableEq, Repr

/-- A queue entry as a frame carries it (R175). Of an entry whose kind is neither STEP nor PLAY only the kind is read. -/
inductive RawEntry where
  | step (s : RawStep)
  | play (id : Byte) (repeats : Half)
  | unknown (kind : Byte)
deriving DecidableEq, Repr

/-- The lane configuration record as CONFIG_LANE carries it, after its lane byte (Table 12-3). -/
structure RawConfig where
  lines : LineSet
  tickExp : Byte
  guard : Byte
  blanking : Byte
  trigger : Byte
  edge : Byte
  leader : Byte
  endAction : Byte
  timeoutAction : Byte
  policy : Byte
  restSet : LineSet
deriving DecidableEq, Repr

/-- A frame, less its sync byte, length byte and CRC (R144). -/
structure Frame where
  kind : Byte
  tag : Byte
  payload : List Byte
deriving DecidableEq, Repr

/-- The levels the receiver reads at the middle of the bit times of one character, true for high (R143). The
start bit is high again at its middle for a glitch. The parity level is not looked at when the
parity is NONE. -/
structure Character where
  startBit : Bool
  data : Byte
  parityBit : Bool
  stopBit : Bool
deriving DecidableEq, Repr

/-- The level of a pin. -/
inductive Level where
  | low
  | high
deriving DecidableEq, Repr

/-- The direction of an edge of a trigger input (R94). -/
inductive Edge where
  | rising
  | falling
deriving DecidableEq, Repr

/-- An input with a filter (R94, R124, R135). -/
inductive FilteredInput where
  | trigger (i : TrigNo)
  | syncN
  | killN
deriving DecidableEq, Repr

/-- The result codes of a reply (Table 12-5, in the order of their values). -/
inductive ResultCode where
  | ok | badKind | badLength | badValue | badLane | wrongState | notOwned | lineTaken
  | interlock | tooShort | queueFull | empty | noSpace | noSequence | seqOpen | inUse
  | badOffset | stale | wrongEntry | killActive | leaderInvalid | busy | inboundFull
deriving DecidableEq, Repr

/-- Every row of the opcode table. The first 23 are the effects of commands, each the one event between the take
of its frame and its completion (R159); the rest are the events of the part's blocks and inputs. -/
inductive Instr where
  -- commands of the link and of the whole part
  | identify
  | ping
  | getStatus (scope argument : Byte)
  | setLink (rate parity : Byte) (window : Half)
  | reinit
  -- line and pair configuration
  | configLine (line polarity safeLevel : Byte)
  | setPair (a b : Byte)
  | clearPair (a : Byte)
  -- lanes and entries
  | configLane (lane : LaneNo) (config : RawConfig)
  | enqueue (lane : LaneNo) (entries : List RawEntry)
  | start (lanes : LaneSet) (mode : Byte)
  -- the sequence library
  | openSeq (id length : Byte)
  | appendSeq (id offset : Byte) (steps : List RawStep)
  | deleteSeq (id : Byte)
  -- the sync line
  | pulseSync
  -- intervening commands
  | pause (lane : LaneNo)
  | resume (lane : LaneNo)
  | stop (lane : LaneNo) (mode : Byte)
  | breakPass (lane : LaneNo)
  | amend (lane : LaneNo) (serial duration : Half)
  | flush (lane : LaneNo)
  -- safe hold
  | abort (lanes : LaneSet)
  | clearFault (lane : LaneNo)
  -- reset and start-up
  | pinReset
  | resetRelease (straps : BitVec 2)
  | startUpEvent
  -- the link's own events
  | characterReceived (c : Character)
  | gapExpiry
  | validFrame (f : Frame)
  | frameTake
  | commandCompletion
  | transmissionEnd
  | keepaliveExpiry
  -- inputs
  | killAssertion
  | killRelease
  | triggerEdge (input : TrigNo) (edge : Edge)
  | syncEdge
  | syncPulseExpiry
  -- timers of the lanes and of the output stage
  | stepEndTimer (lane : LaneNo)
  | blankingEnd (lane : LaneNo)
  | stepTimeout (lane : LaneNo)
  | guardExpiry (line : LineNo)
  -- further events of the receiver and of the filters
  | startBitRecognized
  | syncLowToHigh
  | filterLevelAdopted (input : FilteredInput) (level : Level)
deriving DecidableEq, Repr

end Sys2Proof
end

