-- ==== Sys2Proof/WellFormed.lean ====
section
/-! DEFINITION. Which terms of `Instr` stand for something the link can carry: a command whose frame passes the
general checks (R160), or a frame of a length the link allows (R144). -/

namespace Sys2Proof

/-- An entry's kind byte is read as STEP for 0 and PLAY for 1, so an unknown kind is neither (R175). -/
def RawEntry.wf : RawEntry → Bool
  | .step _ => true
  | .play _ _ => true
  | .unknown kind => kind ≠ 0 && kind ≠ 1

/-- A frame's payload has 0 to 240 bytes (R144). -/
def Frame.wf (f : Frame) : Bool := f.payload.length ≤ 240

/-- The term is one the link can carry: the lane of GET_STATUS scope LANE is 0 to 3, ENQUEUE carries 1 to 8
entries and APPEND_SEQ 1 to 32 steps (R160), and a frame's payload fits (R144). -/
def Instr.wf : Instr → Bool
  | .getStatus scope argument => scope ≠ 1 || argument.toNat ≤ 3
  | .enqueue _ entries => 1 ≤ entries.length && entries.length ≤ 8 && entries.all RawEntry.wf
  | .appendSeq _ _ steps => 1 ≤ steps.length && steps.length ≤ 32
  | .validFrame f => f.wf
  | .identify | .ping | .setLink .. | .reinit | .configLine .. | .setPair .. | .clearPair ..
  | .configLane .. | .start .. | .openSeq .. | .deleteSeq .. | .pulseSync | .pause .. | .resume ..
  | .stop .. | .breakPass .. | .amend .. | .flush .. | .abort .. | .clearFault .. | .pinReset
  | .resetRelease .. | .startUpEvent | .characterReceived .. | .gapExpiry | .frameTake
  | .commandCompletion | .transmissionEnd | .keepaliveExpiry | .killAssertion | .killRelease
  | .triggerEdge .. | .syncEdge | .syncPulseExpiry | .stepEndTimer .. | .blankingEnd ..
  | .stepTimeout .. | .guardExpiry .. | .startBitRecognized | .syncLowToHigh
  | .filterLevelAdopted .. => true

end Sys2Proof
end

