-- ==== Sys2Proof/Decode.lean ====
section
/-! DEFINITION. The general checks: reading a command out of a frame (R160, R175, R176), and the encoder that builds the
frame of a command from the same tables. The opcode table gives no row any bits, so `decodeTableWord` names no command. -/

namespace Sys2Proof

/-- No row of spec/opcode_table.json gives bits: the SQ424's commands are frames, read by `decodeFrame`. -/
def decodeTableWord (_nbits _w : Nat) : Option Instr := none

/-! ### Reading a command out of a frame -/

/-- A two-byte number, high byte first (R174). -/
def halfOf (hi lo : Byte) : Half := hi ++ lo

/-- A line set from its three bytes, high byte first: bit 0 of the third byte is L0 (R174). -/
def lineSetOf (a b c : Byte) : LineSet := a ++ b ++ c

/-- General check 3 on a lane number: above 3 it is refused with BAD_LANE (R160). -/
def laneOf (b : Byte) : Except ResultCode LaneNo :=
  if h : b.toNat < 4 then .ok ⟨b.toNat, h⟩ else .error .badLane

/-- General check 3 on a lane set: a set bit in positions 4 to 7 names a lane above 3 (R160, R174). -/
def laneSetOf (b : Byte) : Except ResultCode LaneSet :=
  if b.toNat < 16 then .ok (b.setWidth 4) else .error .badLane

/-- Exactly `n` steps of six bytes each (R175). -/
def readSteps : Nat → List Byte → Option (List RawStep)
  | 0, [] => some []
  | n + 1, a :: b :: c :: d1 :: d0 :: adv :: rest =>
    (readSteps n rest).map ((⟨lineSetOf a b c, halfOf d1 d0, adv⟩ : RawStep) :: ·)
  | _, _ => none

/-- One entry from its kind byte and six further bytes. Of a PLAY entry the last three are not read, and of an
entry of another kind none is (R175). -/
def entryOf (kind b1 b2 b3 b4 b5 b6 : Byte) : RawEntry :=
  if kind = 0 then .step ⟨lineSetOf b1 b2 b3, halfOf b4 b5, b6⟩
  else if kind = 1 then .play b1 (halfOf b2 b3)
  else .unknown kind

/-- Exactly `n` entries of seven bytes each (R175). -/
def readEntries : Nat → List Byte → Option (List RawEntry)
  | 0, [] => some []
  | n + 1, k :: b1 :: b2 :: b3 :: b4 :: b5 :: b6 :: rest =>
    (readEntries n rest).map (entryOf k b1 b2 b3 b4 b5 b6 :: ·)
  | _, _ => none

/-- A command with one lane and no further field. -/
def decodeLane (c : LaneNo → Instr) : List Byte → Except ResultCode Instr
  | [l] => (laneOf l).map c
  | _ => .error .badLength

/-- A command without payload. -/
def decodeBare (c : Instr) : List Byte → Except ResultCode Instr
  | [] => .ok c
  | _ => .error .badLength

/-- GET_STATUS: the lane of scope LANE alone is checked here (R160). -/
def decodeGetStatus : List Byte → Except ResultCode Instr
  | [scope, arg] => if scope = 1 ∧ 3 < arg.toNat then .error .badLane else .ok (.getStatus scope arg)
  | _ => .error .badLength

/-- SET_LINK: rate code, parity, window. -/
def decodeSetLink : List Byte → Except ResultCode Instr
  | [rate, parity, w1, w0] => .ok (.setLink rate parity (halfOf w1 w0))
  | _ => .error .badLength

/-- CONFIG_LINE: line, polarity, safe level. -/
def decodeConfigLine : List Byte → Except ResultCode Instr
  | [line, pol, safe] => .ok (.configLine line pol safe)
  | _ => .error .badLength

/-- SET_PAIR: line a, line b. -/
def decodeSetPair : List Byte → Except ResultCode Instr
  | [a, b] => .ok (.setPair a b)
  | _ => .error .badLength

/-- CLEAR_PAIR: line a. -/
def decodeClearPair : List Byte → Except ResultCode Instr
  | [a] => .ok (.clearPair a)
  | _ => .error .badLength

/-- CONFIG_LANE: lane, then the record. -/
def decodeConfigLane : List Byte → Except ResultCode Instr
  | [lane, l2, l1, l0, k, g, b, trig, edge, leader, ea, ta, rp, r2, r1, r0] =>
    (laneOf lane).map (Instr.configLane · ⟨lineSetOf l2 l1 l0, k, g, b, trig, edge, leader, ea, ta, rp, lineSetOf r2 r1 r0⟩)
  | _ => .error .badLength

/-- ENQUEUE: the count is read first, then compared with the length (R160, R176). -/
def decodeEnqueue : List Byte → Except ResultCode Instr
  | lane :: count :: rest =>
    if 1 ≤ count.toNat ∧ count.toNat ≤ 8 then
      match readEntries count.toNat rest with
      | some es => (laneOf lane).map (Instr.enqueue · es)
      | none => .error .badLength
    else .error .badLength
  | _ => .error .badLength

/-- START: lane set, mode. -/
def decodeStart : List Byte → Except ResultCode Instr
  | [lanes, mode] => (laneSetOf lanes).map (Instr.start · mode)
  | _ => .error .badLength

/-- OPEN_SEQ: slot id, length. -/
def decodeOpenSeq : List Byte → Except ResultCode Instr
  | [id, len] => .ok (.openSeq id len)
  | _ => .error .badLength

/-- APPEND_SEQ: the count is read first, then compared with the length (R160, R176). -/
def decodeAppendSeq : List Byte → Except ResultCode Instr
  | id :: offset :: count :: rest =>
    if 1 ≤ count.toNat ∧ count.toNat ≤ 32 then
      match readSteps count.toNat rest with
      | some ss => .ok (.appendSeq id offset ss)
      | none => .error .badLength
    else .error .badLength
  | _ => .error .badLength

/-- DELETE_SEQ: slot id. -/
def decodeDeleteSeq : List Byte → Except ResultCode Instr
  | [id] => .ok (.deleteSeq id)
  | _ => .error .badLength

/-- STOP: lane, mode. -/
def decodeStop : List Byte → Except ResultCode Instr
  | [lane, mode] => (laneOf lane).map (Instr.stop · mode)
  | _ => .error .badLength

/-- AMEND: lane, serial, new d. -/
def decodeAmend : List Byte → Except ResultCode Instr
  | [lane, s1, s0, d1, d0] => (laneOf lane).map (Instr.amend · (halfOf s1 s0) (halfOf d1 d0))
  | _ => .error .badLength

/-- ABORT: lane set. -/
def decodeAbort : List Byte → Except ResultCode Instr
  | [lanes] => (laneSetOf lanes).map Instr.abort
  | _ => .error .badLength

/-- The general checks on a frame, in their order: the kind, the payload length, the lanes named (R160). The answer
is the command the frame carries, or the result code of the first check that fails. -/
def decodeFrame (f : Frame) : Except ResultCode Instr :=
  match f.kind.toNat with
  | 0x01 => decodeBare .identify f.payload
  | 0x02 => decodeGetStatus f.payload
  | 0x03 => decodeBare .ping f.payload
  | 0x04 => decodeSetLink f.payload
  | 0x05 => decodeBare .reinit f.payload
  | 0x06 => decodeConfigLine f.payload
  | 0x07 => decodeSetPair f.payload
  | 0x08 => decodeClearPair f.payload
  | 0x09 => decodeConfigLane f.payload
  | 0x0A => decodeEnqueue f.payload
  | 0x0B => decodeStart f.payload
  | 0x0C => decodeOpenSeq f.payload
  | 0x0D => decodeAppendSeq f.payload
  | 0x0E => decodeDeleteSeq f.payload
  | 0x0F => decodeBare .pulseSync f.payload
  | 0x10 => decodeLane .pause f.payload
  | 0x11 => decodeLane .resume f.payload
  | 0x12 => decodeStop f.payload
  | 0x13 => decodeLane .breakPass f.payload
  | 0x14 => decodeAmend f.payload
  | 0x15 => decodeLane .flush f.payload
  | 0x16 => decodeAbort f.payload
  | 0x17 => decodeLane .clearFault f.payload
  | _ => .error .badKind

/-- The frame carries exactly this command: it passes the general checks, and they read the command out of it. -/
def Frame.carries (f : Frame) (c : Instr) : Bool :=
  match decodeFrame f with
  | .ok c' => c' = c
  | .error _ => false

/-! ### Building the frame of a command -/

/-- The high byte of a two-byte number. -/
def Half.high (h : Half) : Byte := h.extractLsb' 8 8

/-- The low byte of a two-byte number. -/
def Half.low (h : Half) : Byte := h.extractLsb' 0 8

/-- A two-byte number, high byte first (R174). -/
def Half.bytes (h : Half) : List Byte := [Half.high h, Half.low h]

/-- A line set's three bytes, high byte first (R174). -/
def LineSet.bytes (s : LineSet) : List Byte := [s.extractLsb' 16 8, s.extractLsb' 8 8, s.extractLsb' 0 8]

/-- A lane set's byte (R174). -/
def LaneSet.byte (s : LaneSet) : Byte := s.setWidth 8

/-- A number of one byte: a lane, line, slot or count. -/
def byteOf (n : Nat) : Byte := BitVec.ofNat 8 n

/-- The six bytes of a step (Table 12-2). -/
def RawStep.bytes (s : RawStep) : List Byte := LineSet.bytes s.active ++ Half.bytes s.duration ++ [s.advance]

/-- The seven bytes of an entry (Table 12-2); bytes that are not read are sent as 0. -/
def RawEntry.bytes : RawEntry → List Byte
  | .step s => 0 :: s.bytes
  | .play id repeats => [1, id] ++ Half.bytes repeats ++ [0, 0, 0]
  | .unknown kind => [kind, 0, 0, 0, 0, 0, 0]

/-- The fifteen bytes of a configuration record in CONFIG_LANE (Table 12-3). -/
def RawConfig.bytes (c : RawConfig) : List Byte :=
  LineSet.bytes c.lines ++ [c.tickExp, c.guard, c.blanking, c.trigger, c.edge, c.leader, c.endAction, c.timeoutAction, c.policy]
    ++ LineSet.bytes c.restSet

/-- The kind code and payload of a command (Table 12-3); an event that is no command has none. -/
def Instr.kindAndPayload : Instr → Option (Byte × List Byte)
  | .identify => some (0x01, [])
  | .getStatus scope arg => some (0x02, [scope, arg])
  | .ping => some (0x03, [])
  | .setLink rate parity w => some (0x04, [rate, parity] ++ Half.bytes w)
  | .reinit => some (0x05, [])
  | .configLine line pol safe => some (0x06, [line, pol, safe])
  | .setPair a b => some (0x07, [a, b])
  | .clearPair a => some (0x08, [a])
  | .configLane lane cfg => some (0x09, byteOf lane :: cfg.bytes)
  | .enqueue lane es => some (0x0A, [byteOf lane, byteOf es.length] ++ es.flatMap RawEntry.bytes)
  | .start lanes mode => some (0x0B, [LaneSet.byte lanes, mode])
  | .openSeq id len => some (0x0C, [id, len])
  | .appendSeq id offset ss => some (0x0D, [id, offset, byteOf ss.length] ++ ss.flatMap RawStep.bytes)
  | .deleteSeq id => some (0x0E, [id])
  | .pulseSync => some (0x0F, [])
  | .pause lane => some (0x10, [byteOf lane])
  | .resume lane => some (0x11, [byteOf lane])
  | .stop lane mode => some (0x12, [byteOf lane, mode])
  | .breakPass lane => some (0x13, [byteOf lane])
  | .amend lane serial d => some (0x14, byteOf lane :: (Half.bytes serial ++ Half.bytes d))
  | .flush lane => some (0x15, [byteOf lane])
  | .abort lanes => some (0x16, [LaneSet.byte lanes])
  | .clearFault lane => some (0x17, [byteOf lane])
  | .pinReset | .resetRelease _ | .startUpEvent | .characterReceived _ | .gapExpiry | .validFrame _
  | .frameTake | .commandCompletion | .transmissionEnd | .keepaliveExpiry | .killAssertion
  | .killRelease | .triggerEdge _ _ | .syncEdge | .syncPulseExpiry | .stepEndTimer _ | .blankingEnd _
  | .stepTimeout _ | .guardExpiry _ | .startBitRecognized | .syncLowToHigh
  | .filterLevelAdopted _ _ => none

/-- The frame in which the host sends a command with a tag of its choice. -/
def Instr.frame (i : Instr) (tag : Byte) : Option Frame :=
  i.kindAndPayload.map fun p => ⟨p.1, tag, p.2⟩

/-- The bytes of an encoded command, as a list (the encoder of the package): its kind code and its payload. -/
def encode (i : Instr) : List Byte :=
  match i.kindAndPayload with
  | some (k, p) => k :: p
  | none => []

/-! ### The CRC and the bytes of a frame on the line -/

/-- One bit of the CRC's shift: the polynomial is x^16 + x^12 + x^5 + 1 (R145). -/
def crcBit (r : Half) : Half := if r.msb then (r <<< 1) ^^^ 0x1021 else r <<< 1

/-- One byte into the remainder, most significant bit first (R145). -/
def crcByte (r : Half) (b : Byte) : Half :=
  crcBit (crcBit (crcBit (crcBit (crcBit (crcBit (crcBit (crcBit (r ^^^ (b.setWidth 16 <<< 8)))))))))

/-- The CRC of a list of bytes: the remainder starts at 0xFFFF and is not inverted at the end (R145). -/
def crc (bs : List Byte) : Half := bs.foldl crcByte 0xFFFF

/-- The length byte N counts the kind, the tag and the payload (R144). -/
def Frame.length (f : Frame) : Byte := byteOf (f.payload.length + 2)

/-- The bytes the CRC covers: length, kind, tag and payload (R145). -/
def Frame.body (f : Frame) : List Byte := f.length :: f.kind :: f.tag :: f.payload

/-- The bytes of a frame on the line: sync, length, kind, tag, payload, CRC (Table 9-2). -/
def Frame.bytes (f : Frame) : List Byte := 0xC5 :: (f.body ++ Half.bytes (crc f.body))

/-- A frame is N + 4 bytes on the line (R144). -/
def Frame.size (f : Frame) : Nat := f.payload.length + 6

end Sys2Proof
end

