-- ==== Sys2Proof/Machine/State.lean ====
section
/-! DEFINITION. Everything the manual gives the SQ424 to hold, block by block (Table 0-2), as plain data, and its values
at pin reset. -/

namespace Sys2Proof.Machine

/-! ### Output Stage (chapter 1) -/

/-- Which pin level is a line's active level (Table 1-1). -/
inductive Polarity where
  | activeHigh | activeLow
deriving DecidableEq, Repr

/-- Where a line goes in a safe application (Table 1-1). -/
inductive SafeLevel where
  | inactive | float
deriving DecidableEq, Repr

/-- A line's logical condition. The pending-since time is present only while the line is PENDING, so it is
held with that state (Table 1-1, R6). -/
inductive LineState where
  | float
  | inactive
  | pending (since : Nat)
  | active
deriving DecidableEq, Repr

/-- One line record (Table 1-1). -/
structure LineRec where
  owner : Option LaneNo
  polarity : Polarity
  safeLevel : SafeLevel
  partner : Option LineNo
  state : LineState
deriving DecidableEq, Repr

/-! ### Lanes (chapters 2, 3 and 5) -/

/-- Which edges of the trigger input count (R25). -/
inductive TriggerEdge where
  | rising | falling | both
deriving DecidableEq, Repr

/-- What a lane does when a boundary finds its queue empty (R28). -/
inductive EndAction where
  | hold | rest
deriving DecidableEq, Repr

/-- What a lane does when an EDGE or FOLLOW step times out (R28). -/
inductive TimeoutAction where
  | note | fault
deriving DecidableEq, Repr

/-- Which step and entry reports a lane sends (R28). -/
inductive Policy where
  | none | entries | steps
deriving DecidableEq, Repr

/-- The lane configuration record (Table 2-1). -/
structure LaneConfig where
  lines : LineSet
  tickExp : Nat
  guard : Nat
  blanking : Nat
  trigger : Option TrigNo
  edge : TriggerEdge
  leader : Option LaneNo
  endAction : EndAction
  timeoutAction : TimeoutAction
  policy : Policy
  restSet : LineSet
deriving DecidableEq, Repr

/-- How a step ends (R37). -/
inductive Advance where
  | time | edge | follow
deriving DecidableEq, Repr

/-- A step (Table 3-1). The duration is in ticks of the lane that plays it. -/
structure Step where
  active : LineSet
  duration : Nat
  advance : Advance
deriving DecidableEq, Repr

/-- What an entry plays (Table 3-2). Repeats 0 is endless. -/
inductive EntryBody where
  | step (s : Step)
  | play (slot : SlotNo) (repeats : Nat)
deriving DecidableEq, Repr

/-- A queue entry with the serial the lane gave it (R39, R40). -/
structure Entry where
  serial : Half
  body : EntryBody
deriving DecidableEq, Repr

/-- The current entry: the entry, the cursor of step index and pass number, and the break-pending mark (R42, R70). The
pass number has no limit (R84). -/
structure Current where
  entry : Entry
  index : Nat
  pass : Nat
  breakPending : Bool
deriving DecidableEq, Repr

/-- The step in progress: its start time, whether its blanking has ended, and whether AMEND has changed its
duration. Its timers are due at the start plus so many ticks, and they go with it (R77, R96, R120). -/
structure StepRun where
  step : Step
  startedAt : Nat
  pastBlanking : Bool
  amended : Bool
deriving DecidableEq, Repr

/-- The nine lane states (Table 5-1). -/
inductive LaneState where
  | off | idle | armed | running | starved | pausing | paused | stopping | safe
deriving DecidableEq, Repr

/-- What one Lane Controller holds (R20, R70). -/
structure LaneRec where
  config : LaneConfig
  state : LaneState
  queue : List Entry
  nextSerial : Half
  current : Option Current
  run : Option StepRun
deriving DecidableEq, Repr

/-! ### Sequence Library (chapter 4) -/

/-- The three slot states (R56). -/
inductive SlotState where
  | free | opened | sealed
deriving DecidableEq, Repr

/-- One library slot (Table 4-1). `opened` is OPEN (a reserved word of Lean), `sealed` SEALED. The filled count is the
number of stored steps; the declared length is absent in FREE. -/
structure Slot where
  state : SlotState
  declared : Option Nat
  steps : List Step
  useCount : Nat
deriving DecidableEq, Repr

/-! ### Inputs and the sync line (R94, R124, R135) -/

/-- The filter of a trigger input: its level, whether it has adopted one since the pin reset, and the time from which its pin may have
stood at another level: that of the last change or adoption, or of the release of RST_N (R94, log entry 7). -/
structure TriggerFilter where
  level : Level
  adopted : Bool
  since : Nat
deriving DecidableEq, Repr

/-- The pulse drive of the Sync Unit; the remaining time is in base periods (R124). -/
inductive Drive where
  | idle
  | driving (remaining : Nat)
deriving DecidableEq, Repr

/-- The Sync Unit (R124): the filter of SYNC_N, held as that of a trigger input is, the pulse drive, and the time at which this part
last released the line. -/
structure SyncUnit where
  level : Level
  adopted : Bool
  since : Nat
  drive : Drive
  releasedAt : Nat
deriving DecidableEq, Repr

/-- The Kill Input: its filtered level, asserted or not, whether it has adopted one, and the time from which its pin may have stood at
another level (R135). -/
structure KillInput where
  asserted : Bool
  adopted : Bool
  since : Nat
deriving DecidableEq, Repr

/-! ### The link (chapter 9) -/

/-- The six link rates (Table 9-1, codes 0 to 5). -/
inductive Rate where
  | r9600 | r57600 | r115200 | r460800 | r1000000 | r2000000
deriving DecidableEq, Repr

/-- The parity of a character (R142). -/
inductive Parity where
  | none | even | odd
deriving DecidableEq, Repr

/-- The settings in force for receiver and transmitter together (R142). -/
structure LinkSettings where
  rate : Rate
  parity : Parity
deriving DecidableEq, Repr

/-- Hunting, or in a frame. The assembly buffer holds the bytes after the sync byte. `gap` counts the time since the
end of the last character, in units of which `gapUnit` make one character time (R147, R155). -/
inductive RxState where
  | hunting
  | inFrame (buffer : List Byte) (gap : Nat)
deriving DecidableEq, Repr

/-- The six link error counters (R150). -/
structure LinkCounters where
  framing : Nat
  parity : Nat
  crc : Nat
  length : Nat
  gap : Nat
  dropped : Nat
deriving DecidableEq, Repr

/-- The Link Receiver. `char` holds the settings of a character whose start bit has been recognized (R155);
`quietFrom` is present while the receiver waits, after a framing error, for RXD to be high for one bit time: the time at which the last
character or start bit since the error showed RXD low (R143, log entry 7). -/
structure Receiver where
  state : RxState
  char : Option LinkSettings
  quietFrom : Option Nat
  counters : LinkCounters
  inbound : List Frame
deriving DecidableEq, Repr

/-- The Keepalive Timer (R153). The window is in units of 10 ms, the remaining time in base periods. -/
structure Keepalive where
  window : Nat
  remaining : Nat
  latch : Bool
deriving DecidableEq, Repr

/-! ### Messages (chapters 10, 11 and 12) -/

/-- The outcome of a STEP_END (Table 11-2). -/
inductive StepOutcome where
  | time | edge | follow | timeout | amended | cut
deriving DecidableEq, Repr

/-- The outcome of an ENTRY_END (Table 11-2). -/
inductive EntryOutcome where
  | done | broken | stopped | cut
deriving DecidableEq, Repr

/-- The cause of a LANE_STATE, with its detail where it has one (Table 11-3). -/
inductive Cause where
  | sync | starved | completed | paused | stopped | kill | keepalive
  | interlock (activating partner : LineNo)
  | timeout (serial : Half) (index : Nat)
deriving DecidableEq, Repr

/-- The causes of safe hold (Table 8-1). -/
inductive SafeCause where
  | abort | kill | keepalive
  | interlock (activating partner : LineNo)
  | timeout (serial : Half) (index : Nat)
deriving DecidableEq, Repr

/-- The notice kinds (R171). -/
inductive NoticeKind where
  | resetDone | killAsserted | killReleased | keepaliveExpired
deriving DecidableEq, Repr

/-- A report, less its lost-before field (Table 11-1). -/
inductive Report where
  | stepEnd (lane : LaneNo) (serial : Half) (index pass : Nat) (outcome : StepOutcome) (elapsed : Nat)
  | entryEnd (lane : LaneNo) (serial : Half) (outcome : EntryOutcome) (passes : Nat)
  | laneState (lane : LaneNo) (state : LaneState) (cause : Cause)
  | notice (kind : NoticeKind)
deriving DecidableEq, Repr

/-- The current-entry fields of GET_STATUS scope LANE (R178). -/
structure CurrentView where
  serial : Half
  isPlay : Bool
  index : Nat
  pass : Nat
  elapsed : Nat
  breakPending : Bool
deriving DecidableEq, Repr

/-- One record of GET_STATUS scope LINES: the line record, and the base periods a PENDING line has waited (R19). -/
structure LineView where
  record : LineRec
  waited : Nat
deriving DecidableEq, Repr

/-- The contents of an accepted GET_STATUS (Table 12-7). -/
inductive Contents where
  | part (states : Vector LaneState 4) (kill latch : Bool) (loss freeSpace freeSlots : Nat)
  | lane (n : LaneNo) (config : LaneConfig) (state : LaneState) (queueLength : Nat) (nextSerial : Half)
      (current : Option CurrentView)
  | lines (views : List LineView)
  | link (counters : LinkCounters) (settings : LinkSettings) (window : Nat)
  | seq (id : SlotNo) (state : SlotState) (declared filled useCount : Nat)
deriving DecidableEq, Repr

/-- The fields of a reply after its result code (Table 12-4). -/
inductive ReplyFields where
  | none
  | identity
  | status (c : Contents)
  | link (settings : LinkSettings) (window : Nat)
  | line (l : LineNo)
  | laneState (st : LaneState)
  | enqueued (first : Half) (count : Nat) (st : LaneState) (detail : Nat)
  | started (failing : Option LaneNo) (states : Vector LaneState 4)
  | slotSpace (st : SlotState) (free : Nat)
  | slotFilled (st : SlotState) (filled : Nat)
  | slotUse (useCount free : Nat)
  | discarded (count : Nat) (st : LaneState)
  | marked (st : LaneState) (serial : Half)
  | aborted (lanes : LaneSet) (states : Vector LaneState 4)
deriving DecidableEq, Repr

/-- What a command answers: its result code, its fields, and the change of link settings that an accepted
SET_LINK attaches to its reply (R154, R161). -/
structure Answer where
  code : ResultCode
  fields : ReplyFields
  change : Option LinkSettings
deriving DecidableEq, Repr

/-- A message of the outbound queue. A reply carries the kind and tag of the frame it answers (R161), a report its
lost-before count (R167). -/
inductive Message where
  | reply (kind tag : Byte) (answer : Answer)
  | report (lostBefore : Nat) (r : Report)
deriving DecidableEq, Repr

/-- The transmission of the message at the head: when it began, and the settings it was framed at (R151). -/
structure Transmission where
  startedAt : Nat
  settings : LinkSettings
deriving DecidableEq, Repr

/-- The Link Transmitter. The pending changes of link settings stand in the queued replies they belong to (R151, R155). -/
structure Transmitter where
  queue : List Message
  sending : Option Transmission
  loss : Nat
deriving DecidableEq, Repr

/-- The frame being executed. `answer` is absent until the command's one event has been taken, or holds the
refusal of the general checks. `eventAt` and `completeAt` are the instants, within the command's bound,
at which an unprompted part takes the event and the completion (R159, log entry 3). -/
structure Execution where
  frame : Frame
  answer : Option Answer
  eventAt : Nat
  completeAt : Nat
deriving DecidableEq, Repr

/-- The Command Processor (R157). -/
inductive Proc where
  | idle
  | executing (x : Execution)
deriving DecidableEq, Repr

/-- Held in pin reset, released at a time but before the start-up event, or started (R157, R166). -/
inductive Phase where
  | held
  | starting (releasedAt : Nat)
  | started
deriving DecidableEq, Repr

/-! ### Events in flight -/

/-- What an event sets off at its own instant and another block has still to take: the boundary event of a leader at a follower (R89, R99),
an edge at a lane that names its input (R95), a sync edge at an ARMED lane (R125), a cause of safe hold at a lane (R10, R136, R138), and
reports on their way to the outbound queue, in their order (R152, R173). -/
inductive SetOff where
  | leaderBoundary (follower : LaneNo)
  | edge (lane : LaneNo) (e : Edge)
  | syncEdge (lane : LaneNo)
  | safe (lane : LaneNo) (c : SafeCause)
  | reports (rs : List Report)
deriving DecidableEq, Repr

/-! ### The whole part -/

/-- The SQ424. `now` is the time in base periods of CLKIN. `pending` is the queue of commands and events still to be taken, oldest first.
`setOff` holds what events of this instant have set off and no block has taken yet; each is an event of its own, taken by a step of its
own, and no time passes before it (log entry 8). `choices` and `draws` are the model's own: the choices among orders and instants the
manual leaves open come from `choices` while it holds any, and then from the free value `Config.freeChoice` applied to `draws` (log entry
3). -/
structure State where
  now : Nat
  phase : Phase
  lines : Vector LineRec 24
  faultN : Bool
  lanes : Vector LaneRec 4
  slots : Vector Slot 32
  triggers : Vector TriggerFilter 4
  sync : SyncUnit
  kill : KillInput
  rx : Receiver
  settings : LinkSettings
  tx : Transmitter
  keepalive : Keepalive
  proc : Proc
  setOff : List SetOff
  pending : List Instr
  choices : List Nat
  draws : Nat
deriving DecidableEq, Repr

/-- No command or event of the SQ424 ends its run: each one the manual describes has an effect, and one that cannot take
place as the state stands takes no effect. No meaning raises a fault, so the type has no constructor; there is nothing
whose being safe or unsafe could be in question. -/
inductive Fault
deriving DecidableEq, Repr

/-- Why a command has no meaning. -/
inductive Refusal where
  /-- Raised by the dispatch for a row without a meaning; no arm raises it now. Safe: it answers no next state. -/
  | notModelled (mnemonic : String)
deriving DecidableEq, Repr

/-- What a step answers. -/
abbrev Out := Host.Outcome State Fault Refusal

/-! ### The values at pin reset -/

/-- Table 1-1, reset values. -/
def LineRec.reset : LineRec := ⟨none, .activeHigh, .inactive, none, .float⟩

/-- Table 2-1, reset values. -/
def LaneConfig.reset : LaneConfig :=
  { lines := 0, tickExp := 0, guard := 0, blanking := 1, trigger := none, edge := .rising, leader := none,
    endAction := .rest, timeoutAction := .note, policy := .entries, restSet := 0 }

/-- A lane after pin reset or REINIT: OFF, queue empty, no current entry, no timers, next serial 0 (R70). -/
def LaneRec.reset : LaneRec := ⟨LaneConfig.reset, .off, [], 0, none, none⟩

/-- Table 4-1, reset values. -/
def Slot.reset : Slot := ⟨.free, none, [], 0⟩

/-- Until its filter adopts a level, the filtered level of a trigger input is low (R94). Its time is set at the release of RST_N, and not
read before it (log entry 7). -/
def TriggerFilter.reset : TriggerFilter := ⟨.low, false, 0⟩

/-- Until its filter adopts a level, the filtered level of SYNC_N is high; the drive is IDLE (R124). -/
def SyncUnit.reset : SyncUnit := ⟨.high, false, 0, .idle, 0⟩

/-- Until its filter adopts a level, the filtered level of KILL_N is deasserted (R135). -/
def KillInput.reset : KillInput := ⟨false, false, 0⟩

/-- All six counters at 0 (R150). -/
def LinkCounters.zero : LinkCounters := ⟨0, 0, 0, 0, 0, 0⟩

/-- Hunting, buffer and inbound queue empty, counters 0 (Table 9-4). -/
def Receiver.reset : Receiver := ⟨.hunting, none, none, LinkCounters.zero, []⟩

/-- Table 9-4: parity NONE. The rate is read from the straps at the release of RST_N; until then the manual gives it no value and the
model holds code 2, the rate of straps 00 (DESIGN CHOICE, log entry 4). -/
def LinkSettings.reset : LinkSettings := ⟨.r115200, .none⟩

/-- Outbound queue empty, nothing in transmission, report-loss counter 0 (Table 9-4). -/
def Transmitter.reset : Transmitter := ⟨[], none, 0⟩

/-- Window 0, not running, latch clear (R153). The manual gives the remaining time of a timer that does not run no value; the model holds 0,
which nothing reads before SET_LINK has set it (DESIGN CHOICE, log entry 16). -/
def Keepalive.reset : Keepalive := ⟨0, 0, false⟩

/-- The part held in pin reset (R166): every block at the value its chapter gives for pin reset. Time starts at 0, the
queue is empty and nothing is set off; the model's own `choices` and `draws` start empty and at 0 (log entries 2 and 3). -/
def State.reset : State :=
  { now := 0, phase := .held, lines := Vector.replicate 24 LineRec.reset, faultN := false,
    lanes := Vector.replicate 4 LaneRec.reset, slots := Vector.replicate 32 Slot.reset,
    triggers := Vector.replicate 4 TriggerFilter.reset, sync := SyncUnit.reset, kill := KillInput.reset,
    rx := Receiver.reset, settings := LinkSettings.reset, tx := Transmitter.reset, keepalive := Keepalive.reset,
    proc := .idle, setOff := [], pending := [], choices := [], draws := 0 }

end Sys2Proof.Machine
end

