-- ==== Sys2Proof/Machine/Operands.lean ====
section
/-! DEFINITION. Every operand form: the codes of Table 12-1 read into names, line sets and lane sets, and the steps, entries and
configuration records that commands carry. -/

namespace Sys2Proof.Machine

/-! ### Codes (Table 12-1); an unlisted value is none -/

/-- None is the byte 0xFF wherever a field may name nothing (R174). -/
def noneCode : Byte := 0xFF

/-- A line field: 0 to 23 (R174). -/
def lineOfCode (b : Byte) : Option LineNo := if h : b.toNat < 24 then some ⟨b.toNat, h⟩ else none

/-- A slot id: 0 to 31. -/
def slotOfCode (b : Byte) : Option SlotNo := if h : b.toNat < 32 then some ⟨b.toNat, h⟩ else none

/-- Polarity: 0 ACTIVE_HIGH, 1 ACTIVE_LOW. -/
def Polarity.ofCode (b : Byte) : Option Polarity :=
  if b = 0 then some .activeHigh else if b = 1 then some .activeLow else none

/-- Safe level: 0 INACTIVE, 1 FLOAT. -/
def SafeLevel.ofCode (b : Byte) : Option SafeLevel :=
  if b = 0 then some .inactive else if b = 1 then some .float else none

/-- Trigger input: 0 to 3, or 0xFF for none. The outer option is absent for an unlisted code. -/
def triggerOfCode (b : Byte) : Option (Option TrigNo) :=
  if h : b.toNat < 4 then some (some ⟨b.toNat, h⟩) else if b = noneCode then some none else none

/-- Trigger edge: 0 RISING, 1 FALLING, 2 BOTH. -/
def TriggerEdge.ofCode (b : Byte) : Option TriggerEdge :=
  if b = 0 then some .rising else if b = 1 then some .falling else if b = 2 then some .both else none

/-- Leader: 0 to 3, or 0xFF for none. -/
def leaderOfCode (b : Byte) : Option (Option LaneNo) :=
  if h : b.toNat < 4 then some (some ⟨b.toNat, h⟩) else if b = noneCode then some none else none

/-- End action: 0 HOLD, 1 REST. -/
def EndAction.ofCode (b : Byte) : Option EndAction :=
  if b = 0 then some .hold else if b = 1 then some .rest else none

/-- Timeout action: 0 NOTE, 1 FAULT. -/
def TimeoutAction.ofCode (b : Byte) : Option TimeoutAction :=
  if b = 0 then some .note else if b = 1 then some .fault else none

/-- Report policy: 0 NONE, 1 ENTRIES, 2 STEPS. -/
def Policy.ofCode (b : Byte) : Option Policy :=
  if b = 0 then some .none else if b = 1 then some .entries else if b = 2 then some .steps else none

/-- Advance: 0 TIME, 1 EDGE, 2 FOLLOW. -/
def Advance.ofCode (b : Byte) : Option Advance :=
  if b = 0 then some .time else if b = 1 then some .edge else if b = 2 then some .follow else none

/-- START mode: 0 NOW, 1 ON_SYNC. -/
inductive StartMode where
  | now | onSync
deriving DecidableEq, Repr

/-- START mode: 0 NOW, 1 ON_SYNC. -/
def StartMode.ofCode (b : Byte) : Option StartMode :=
  if b = 0 then some .now else if b = 1 then some .onSync else none

/-- STOP mode: 0 BOUNDARY, 1 NOW. -/
inductive StopMode where
  | boundary | now
deriving DecidableEq, Repr

/-- STOP mode: 0 BOUNDARY, 1 NOW. -/
def StopMode.ofCode (b : Byte) : Option StopMode :=
  if b = 0 then some .boundary else if b = 1 then some .now else none

/-- Rate code (Table 9-1). -/
def Rate.ofCode (b : Byte) : Option Rate :=
  if b = 0 then some .r9600 else if b = 1 then some .r57600 else if b = 2 then some .r115200
  else if b = 3 then some .r460800 else if b = 4 then some .r1000000 else if b = 5 then some .r2000000 else none

/-- Parity: 0 NONE, 1 EVEN, 2 ODD. -/
def Parity.ofCode (b : Byte) : Option Parity :=
  if b = 0 then some .none else if b = 1 then some .even else if b = 2 then some .odd else none

/-- The rate of the straps BAUD1 and BAUD0: 00 code 2, 01 code 3, 10 code 4, 11 code 5 (R142). -/
def Rate.ofStraps (straps : BitVec 2) : Rate :=
  if straps = 0 then .r115200 else if straps = 1 then .r460800 else if straps = 2 then .r1000000 else .r2000000

/-- GET_STATUS scope: 0 PART, 1 LANE, 2 LINES, 3 LINK, 4 SEQ, with its argument read as each scope reads it (R164): the lane of
scope LANE has passed the general checks, and a slot id above 31 is refused. -/
inductive Scope where
  | part
  | lane (n : LaneNo)
  | lines
  | link (clear : Bool)
  | seq (id : SlotNo)
deriving DecidableEq, Repr

/-- The scope and argument of GET_STATUS; none gives BAD_VALUE (R164). -/
def Scope.ofCode (scope arg : Byte) : Option Scope :=
  if scope = 0 then some .part
  else if scope = 1 then (if h : arg.toNat < 4 then some (.lane ⟨arg.toNat, h⟩) else none)
  else if scope = 2 then some .lines
  else if scope = 3 then some (.link (decide (arg ≠ 0)))
  else if scope = 4 then (slotOfCode arg).map .seq
  else none

/-! ### Line sets and lane sets -/

/-- Line l is in the set: bit l is set (R174). -/
def lineIn (s : LineSet) (l : LineNo) : Bool := s.getLsbD l.val

/-- Every line of the first set is in the second. -/
def lineSubset (a b : LineSet) : Bool := a &&& ~~~b == 0

/-- Lane n is in the lane set: bit n is set (R174). -/
def laneIn (s : LaneSet) (n : LaneNo) : Bool := s.getLsbD n.val

/-- The lanes of a lane set, in ascending order. -/
def lanesOf (s : LaneSet) : List LaneNo := (List.finRange 4).filter (laneIn s)

/-- The lane set that holds the lanes of a list. -/
def laneSetOfList (ns : List LaneNo) : LaneSet := ns.foldl (fun s n => s ||| (1#4 <<< n.val)) 0

/-! ### Steps and records -/

/-- A step of a frame as a step record, when it is intrinsically valid: a duration of 1 or more and a listed advance (R38). -/
def stepOfRaw (r : RawStep) : Option Step :=
  if r.duration = 0 then none else (Advance.ofCode r.advance).map (⟨r.active, r.duration.toNat, ·⟩)

/-- All steps of a list, when each is intrinsically valid (R59). -/
def stepsOfRaw : List RawStep → Option (List Step)
  | [] => some []
  | r :: rs =>
    match stepOfRaw r, stepsOfRaw rs with
    | some s, some ss => some (s :: ss)
    | _, _ => none

/-- The configuration record that CONFIG_LANE carries, when every field is in range and the rest set lies within the new
line set (check 3 of R33). -/
def configOfRaw (r : RawConfig) : Option LaneConfig :=
  match triggerOfCode r.trigger, TriggerEdge.ofCode r.edge, leaderOfCode r.leader, EndAction.ofCode r.endAction,
    TimeoutAction.ofCode r.timeoutAction, Policy.ofCode r.policy with
  | some trigger, some edge, some leader, some endAction, some timeoutAction, some policy =>
    if r.tickExp.toNat ≤ 10 ∧ r.blanking ≠ 0 ∧ lineSubset r.restSet r.lines = true then
      some { lines := r.lines, tickExp := r.tickExp.toNat, guard := r.guard.toNat, blanking := r.blanking.toNat,
             trigger := trigger, edge := edge, leader := leader, endAction := endAction, timeoutAction := timeoutAction,
             policy := policy, restSet := r.restSet }
    else none
  | _, _, _, _, _, _ => none

/-- A duration of d ticks in base periods, for the tick exponent of a record (R21). -/
def LaneConfig.ticks (c : LaneConfig) (d : Nat) : Nat := d * 2 ^ c.tickExp

/-- The line set holds both lines of an interlock pair, by the partner fields given. -/
def holdsPair (partner : LineNo → Option LineNo) (s : LineSet) : Bool :=
  (List.finRange 24).any fun l => lineIn s l && (match partner l with
    | some p => lineIn s p
    | none => false)

/-- The step checks against a lane, in the order of Table 3-4: the result code of the first that fails, or none (R44). -/
def stepCheck (c : LaneConfig) (partner : LineNo → Option LineNo) (s : Step) : Option ResultCode :=
  if lineSubset s.active c.lines = false then some .notOwned
  else if holdsPair partner s.active = true then some .interlock
  else if c.ticks s.duration ≤ c.guard then some .tooShort
  else if s.advance ≠ .time ∧ s.duration ≤ c.blanking then some .tooShort
  else if s.advance = .edge ∧ c.trigger = none then some .badValue
  else if s.advance = .follow ∧ c.leader = none then some .badValue
  else none

/-- The first failing step check of a list of steps, each step checked completely before the next (R44). -/
def stepsCheck (c : LaneConfig) (partner : LineNo → Option LineNo) : List Step → Option ResultCode
  | [] => none
  | s :: ss =>
    match stepCheck c partner s with
    | some code => some code
    | none => stepsCheck c partner ss

/-- Entries numbered from a serial on, which wraps after 65535 (R40). -/
def numberEntries : Half → List EntryBody → List Entry
  | _, [] => []
  | serial, b :: bs => ⟨serial, b⟩ :: numberEntries (serial + 1) bs

/-- An edge of one direction is accepted by the trigger edge field (R95). -/
def TriggerEdge.accepts : TriggerEdge → Edge → Bool
  | .rising, .rising => true
  | .falling, .falling => true
  | .both, _ => true
  | _, _ => false

end Sys2Proof.Machine
end

