-- ==== Sys2Proof/Machine/Flags.lean ====
section
/-! DEFINITION. What is computed from the state rather than held: pin levels, the characters on TXD, link times, counts and conditions
that the rules read. -/

namespace Sys2Proof.Machine

/-! ### Reading the state -/

/-- Line record l. -/
def State.line (s : State) (l : LineNo) : LineRec := s.lines[l]

/-- Lane Controller n. -/
def State.lane (s : State) (n : LaneNo) : LaneRec := s.lanes[n]

/-- Library slot i. -/
def State.slot (s : State) (i : SlotNo) : Slot := s.slots[i]

/-- The filter of trigger input i. -/
def State.trigger (s : State) (i : TrigNo) : TriggerFilter := s.triggers[i]

/-- The partner fields of the line table. -/
def State.partner (s : State) (l : LineNo) : Option LineNo := (s.line l).partner

/-- The states of the four lanes, in lane order. -/
def State.laneStates (s : State) : Vector LaneState 4 := s.lanes.map LaneRec.state

/-- At least one lane is in SAFE (R18). -/
def State.someSafe (s : State) : Bool := (List.finRange 4).any fun n => (s.lane n).state == .safe

/-- The part is held in pin reset: RST_N is asserted (R166). -/
def State.isHeld (s : State) : Bool := s.phase == .held

/-! ### Pins -/

/-- What a pin shows. -/
inductive Pin where
  | highZ | low | high
deriving DecidableEq, Repr

/-- Table 1-2: the pin level a line's state and polarity call for. -/
def LineRec.pin (r : LineRec) : Pin :=
  match r.state, r.polarity with
  | .float, _ => .highZ
  | .active, .activeHigh => .high
  | .active, .activeLow => .low
  | _, .activeHigh => .low
  | _, .activeLow => .high

/-- The pin of line l. While RST_N is asserted every line pin is at high impedance (R3). -/
def State.linePin (s : State) (l : LineNo) : Pin := if s.isHeld then .highZ else (s.line l).pin

/-- FAULT_N is a driven output, high when deasserted (R18). -/
def State.faultPin (s : State) : Pin := if s.faultN then .low else .high

/-- What this part drives on SYNC_N: low while a pulse is being driven, and nothing otherwise (R124). -/
def State.syncPin (s : State) : Pin :=
  match s.sync.drive with
  | .idle => .highZ
  | .driving _ => .low

/-! ### The rates and times of the link -/

/-- Bit rate (Table 9-1). -/
def Rate.bps : Rate → Nat
  | .r9600 => 9600
  | .r57600 => 57600
  | .r115200 => 115200
  | .r460800 => 460800
  | .r1000000 => 1000000
  | .r2000000 => 2000000

/-- A character is 10 bit times long without parity and 11 with it (R142). -/
def Parity.charBits : Parity → Nat
  | .none => 10
  | .even => 11
  | .odd => 11

/-- The units of `RxState.inFrame`'s gap count in one character time, at any rate and parity. -/
def gapUnit : Nat := 110 * Config.basePerSecond

/-- The gap limit, 20 character times (R147). -/
def gapLimit : Nat := 20 * gapUnit

/-- The part of a character time that one base period makes, in units of `gapUnit`, at the settings in force (R155). -/
def LinkSettings.gapStep (c : LinkSettings) : Nat := c.rate.bps * (110 / c.parity.charBits)

/-- At least `n` bit times at this rate fit in `t` base periods. -/
def Rate.bitsIn (r : Rate) (n t : Nat) : Bool := n * Config.basePerSecond ≤ t * r.bps

/-! ### Characters -/

/-- The data bits hold an odd number of ones. -/
def oddOnes (b : Byte) : Bool :=
  (List.range 8).foldl (fun p i => xor p (b.getLsbD i)) false

/-- The parity bit that goes with a byte; none with parity NONE (R142). -/
def Parity.bit : Parity → Byte → Option Bool
  | .none, _ => Option.none
  | .even, b => some (oddOnes b)
  | .odd, b => some (!oddOnes b)

/-- The bits of one character: start low, data least significant bit first, parity, stop high (R142). -/
def charBits (p : Parity) (b : Byte) : List Bool :=
  false :: ((List.range 8).map b.getLsbD ++ (p.bit b).toList ++ [true])

/-- The two checks of a complete character: the stop bit first, and the parity bit only after it (R143). -/
inductive CharCheck where
  | good | framing | parity
deriving DecidableEq, Repr

/-- The two checks of a complete character at the settings it is received at (R143). -/
def checkCharacter (p : Parity) (c : Character) : CharCheck :=
  if c.stopBit = false then .framing
  else match p.bit c.data with
    | none => .good
    | some b => if b = c.parityBit then .good else .parity

/-! ### Counts -/

/-- A counter that stops at its largest value (R150, R152). -/
def saturate (top n : Nat) : Nat := if n < top then n + 1 else top

/-- The messages the outbound queue holds, the reservation of the frame being executed included (R158). -/
def State.held (s : State) : Nat :=
  s.tx.queue.length + (match s.proc with
    | .idle => 0
    | .executing _ => 1)

/-- The declared length a slot reserves, 0 in FREE (R55). -/
def Slot.reserved (x : Slot) : Nat := x.declared.getD 0

/-- The filled count: the number of steps stored (Table 4-1). -/
def Slot.filled (x : Slot) : Nat := x.steps.length

/-- The sum of the declared lengths of all OPEN and SEALED slots (R55). -/
def State.reservedSteps (s : State) : Nat := ((List.finRange 32).map fun i => (s.slot i).reserved).sum

/-- The free space of the library (R55). -/
def State.freeSpace (s : State) : Nat := Config.librarySteps - s.reservedSteps

/-- The number of slots in state FREE (R55). -/
def State.freeSlots (s : State) : Nat := ((List.finRange 32).filter fun i => (s.slot i).state == .free).length

/-- The free room of a lane's queue (R41). -/
def LaneRec.freeRoom (r : LaneRec) : Nat := Config.queueDepth - r.queue.length

/-! ### Conditions -/

/-- The pin of trigger input i can have stood at another level for two base periods (R94). -/
def State.triggerSteady (s : State) (i : TrigNo) : Bool := (s.trigger i).since + Config.edgeFilter ≤ s.now

/-- SYNC_N can have stood at another level for two base periods (R124). -/
def State.syncSteady (s : State) : Bool := s.sync.since + Config.edgeFilter ≤ s.now

/-- SYNC_N can have stood high for two base periods: this part does not pull it low, or begins to at this very instant, and has not done
so for two base periods (R124). -/
def State.syncFree (s : State) : Bool :=
  (s.sync.drive == .idle || s.sync.drive == .driving Config.pulseLength) && decide (s.sync.releasedAt + Config.edgeFilter ≤ s.now)

/-- KILL_N can have stood at another level for ten base periods (R135). -/
def State.killSteady (s : State) : Bool := s.kill.since + Config.killFilter ≤ s.now

/-- The Keepalive Timer runs: the window is not 0 and the latch is clear (R153). -/
def Keepalive.running (k : Keepalive) : Bool := k.window ≠ 0 && !k.latch

/-- The whole ticks since the step in progress began, rounded down (R78, R103). -/
def State.elapsed (s : State) (n : LaneNo) : Nat :=
  match (s.lane n).run with
  | some r => (s.now - r.startedAt) / 2 ^ (s.lane n).config.tickExp
  | none => 0

/-- A timer of the step in progress that runs for `d` ticks has run out (R77). -/
def State.ticksReached (s : State) (n : LaneNo) (r : StepRun) (d : Nat) : Bool :=
  r.startedAt + (s.lane n).config.ticks d ≤ s.now

/-- The guard expiry of line l is due: it has been PENDING for the guard interval, as configured now, of the lane that owns
it (R7). -/
def State.guardDue (s : State) (l : LineNo) : Bool :=
  match (s.line l).state, (s.line l).owner with
  | .pending since, some n => since + (s.lane n).config.guard ≤ s.now
  | _, _ => false

/-- Line l is in the rest set of the lane that owns it; a line with no owner is in no rest set (R15). -/
def State.inOwnRestSet (s : State) (l : LineNo) : Bool :=
  match (s.line l).owner with
  | some n => lineIn (s.lane n).config.restSet l
  | none => false

/-- The lane that owns line l, if any, is in OFF, IDLE or SAFE with an empty queue (R15, R17). -/
def State.ownerQuiet (s : State) (l : LineNo) : Bool :=
  match (s.line l).owner with
  | some n =>
    ((s.lane n).state == .off || (s.lane n).state == .idle || (s.lane n).state == .safe) && (s.lane n).queue.isEmpty
  | none => true

/-- The leader field of a new record for lane n is invalid: it names the lane itself, a lane that has a leader, or any lane while
another lane follows lane n (R27). -/
def State.leaderInvalid (s : State) (n : LaneNo) (leader : Option LaneNo) : Bool :=
  match leader with
  | none => false
  | some m =>
    m == n || (s.lane m).config.leader.isSome
      || (List.finRange 4).any fun p => p != n && (s.lane p).config.leader == some n

/-- A line of the set is owned by another lane than n (R33). -/
def State.lineTaken (s : State) (n : LaneNo) (ls : LineSet) : Bool :=
  (List.finRange 24).any fun l => lineIn ls l && (match (s.line l).owner with
    | some m => m != n
    | none => false)

/-- The step at a cursor: the inline step, or the slot's step of that index as it stands now (R63, R87). -/
def State.stepAt (s : State) (c : Current) : Option Step :=
  match c.entry.body with
  | .step st => some st
  | .play slot _ => (s.slot slot).steps[c.index]?

/-- The passes completed of an entry that ends before its present pass does: 0 for a STEP entry, the pass number less 1 for a PLAY
entry (R115, R116, R132). -/
def Current.passesBefore (c : Current) : Nat :=
  match c.entry.body with
  | .step _ => 0
  | .play _ _ => c.pass - 1

/-- The lanes that name lane n as leader (R26). -/
def State.followers (s : State) (n : LaneNo) : List LaneNo :=
  (List.finRange 4).filter fun m => (s.lane m).config.leader == some n

/-- The lanes that own lines and are not in SAFE (R136, R138). -/
def State.safeTargets (s : State) : List LaneNo :=
  (List.finRange 4).filter fun n => (s.lane n).config.lines != 0 && (s.lane n).state != .safe

end Sys2Proof.Machine
end

