-- ==== Sys2Proof/Machine/Layout.lean ====
section
/-! DEFINITION. The bytes of replies and reports (chapter 12): the frame of every message of the outbound queue, and the level of TXD. -/

namespace Sys2Proof.Machine

/-! ### Codes of names (Table 12-1, Table 12-5) -/

/-- A number of two bytes; one above 65535 is carried as 65535 (R174). -/
def twoBytes (n : Nat) : List Byte := Half.bytes (BitVec.ofNat 16 (min n 65535))

/-- A flag: 0 clear, 1 set (R174). -/
def flagByte (b : Bool) : Byte := if b then 1 else 0

/-- A number, or 0xFF for none (R174). -/
def orNone {n : Nat} : Option (Fin n) → Byte
  | some x => byteOf x.val
  | none => noneCode

/-- Lane state codes. -/
def LaneState.code : LaneState → Byte
  | .off => 0 | .idle => 1 | .armed => 2 | .running => 3 | .starved => 4 | .pausing => 5 | .paused => 6 | .stopping => 7 | .safe => 8

/-- Line state codes. -/
def LineState.code : LineState → Byte
  | .float => 0 | .inactive => 1 | .pending _ => 2 | .active => 3

/-- Polarity codes. -/
def Polarity.code : Polarity → Byte
  | .activeHigh => 0 | .activeLow => 1

/-- Safe level codes. -/
def SafeLevel.code : SafeLevel → Byte
  | .inactive => 0 | .float => 1

/-- Trigger edge codes. -/
def TriggerEdge.code : TriggerEdge → Byte
  | .rising => 0 | .falling => 1 | .both => 2

/-- End action codes. -/
def EndAction.code : EndAction → Byte
  | .hold => 0 | .rest => 1

/-- Timeout action codes. -/
def TimeoutAction.code : TimeoutAction → Byte
  | .note => 0 | .fault => 1

/-- Report policy codes. -/
def Policy.code : Policy → Byte
  | .none => 0 | .entries => 1 | .steps => 2

/-- Parity codes. -/
def Parity.code : Parity → Byte
  | .none => 0 | .even => 1 | .odd => 2

/-- Rate codes (Table 9-1). -/
def Rate.code : Rate → Byte
  | .r9600 => 0 | .r57600 => 1 | .r115200 => 2 | .r460800 => 3 | .r1000000 => 4 | .r2000000 => 5

/-- Slot state codes. -/
def SlotState.code : SlotState → Byte
  | .free => 0 | .opened => 1 | .sealed => 2

/-- STEP_END outcome codes. -/
def StepOutcome.code : StepOutcome → Byte
  | .time => 0 | .edge => 1 | .follow => 2 | .timeout => 3 | .amended => 4 | .cut => 5

/-- ENTRY_END outcome codes. -/
def EntryOutcome.code : EntryOutcome → Byte
  | .done => 0 | .broken => 1 | .stopped => 2 | .cut => 3

/-- LANE_STATE cause codes. -/
def Cause.code : Cause → Byte
  | .sync => 0 | .starved => 1 | .completed => 2 | .paused => 3 | .stopped => 4 | .kill => 5 | .keepalive => 6
  | .interlock _ _ => 7 | .timeout _ _ => 8

/-- Notice kind codes. -/
def NoticeKind.code : NoticeKind → Byte
  | .resetDone => 0 | .killAsserted => 1 | .killReleased => 2 | .keepaliveExpired => 3

/-- Result code values (Table 12-5). -/
def ResultCode.value : ResultCode → Byte
  | .ok => 0 | .badKind => 1 | .badLength => 2 | .badValue => 3 | .badLane => 4 | .wrongState => 5 | .notOwned => 6
  | .lineTaken => 7 | .interlock => 8 | .tooShort => 9 | .queueFull => 10 | .empty => 11 | .noSpace => 12
  | .noSequence => 13 | .seqOpen => 14 | .inUse => 15 | .badOffset => 16 | .stale => 17 | .wrongEntry => 18
  | .killActive => 19 | .leaderInvalid => 20 | .busy => 21 | .inboundFull => 22

/-! ### Reports (Table 12-6) -/

/-- The detail of a cause: two lines for INTERLOCK, serial and step index for TIMEOUT, nothing for the others (R179). -/
def Cause.detail : Cause → List Byte
  | .interlock a p => [byteOf a.val, byteOf p.val]
  | .timeout serial index => Half.bytes serial ++ [byteOf index]
  | _ => []

/-- Report kind codes (Table 12-3). -/
def Report.kind : Report → Byte
  | .stepEnd .. => 0x81
  | .entryEnd .. => 0x82
  | .laneState .. => 0x83
  | .notice .. => 0x84

/-- The fields of a report after its lost-before byte (Table 12-6). -/
def Report.fields : Report → List Byte
  | .stepEnd lane serial index pass outcome elapsed =>
    [byteOf lane.val] ++ Half.bytes serial ++ [byteOf index] ++ twoBytes pass ++ [outcome.code] ++ twoBytes elapsed
  | .entryEnd lane serial outcome passes => [byteOf lane.val] ++ Half.bytes serial ++ [outcome.code] ++ twoBytes passes
  | .laneState lane state cause => [byteOf lane.val, state.code, cause.code] ++ cause.detail
  | .notice kind => [kind.code]

/-! ### GET_STATUS contents (Table 12-7) -/

/-- A configuration record as scope LANE returns it, after its lane byte. -/
def LaneConfig.bytes (c : LaneConfig) : List Byte :=
  LineSet.bytes c.lines ++ [byteOf c.tickExp, byteOf c.guard, byteOf c.blanking, orNone c.trigger, c.edge.code, orNone c.leader,
    c.endAction.code, c.timeoutAction.code, c.policy.code] ++ LineSet.bytes c.restSet

/-- The current-entry fields; each is sent as 0 when there is no current entry (R178). -/
def currentBytes : Option CurrentView → List Byte
  | some v => [1] ++ Half.bytes v.serial ++ [flagByte v.isPlay, byteOf v.index] ++ twoBytes v.pass ++ twoBytes v.elapsed
      ++ [flagByte v.breakPending]
  | none => [0, 0, 0, 0, 0, 0, 0, 0, 0, 0]

/-- One line record of scope LINES. -/
def LineView.bytes (v : LineView) : List Byte :=
  [orNone v.record.owner, v.record.polarity.code, v.record.safeLevel.code, orNone v.record.partner, v.record.state.code,
    byteOf v.waited]

/-- The six link counters, in their order. -/
def LinkCounters.bytes (c : LinkCounters) : List Byte :=
  twoBytes c.framing ++ twoBytes c.parity ++ twoBytes c.crc ++ twoBytes c.length ++ twoBytes c.gap ++ twoBytes c.dropped

/-- The scope byte and the contents of an accepted GET_STATUS. -/
def Contents.bytes : Contents → List Byte
  | .part states kill latch loss freeSpace freeSlots =>
    [0] ++ states.toList.map LaneState.code ++ [flagByte kill, flagByte latch, byteOf loss] ++ twoBytes freeSpace ++ [byteOf freeSlots]
  | .lane n config state queueLength nextSerial current =>
    [1, byteOf n.val] ++ config.bytes ++ [state.code, byteOf queueLength] ++ Half.bytes nextSerial ++ currentBytes current
  | .lines views => 2 :: views.flatMap LineView.bytes
  | .link counters settings window => [3] ++ counters.bytes ++ [settings.rate.code, settings.parity.code] ++ twoBytes window
  | .seq id state declared filled useCount =>
    [4, byteOf id.val, state.code, byteOf declared, byteOf filled, byteOf useCount]

/-! ### Replies (Table 12-4) -/

/-- The identity fields of the part (Table 10-3). -/
def identityBytes : List Byte := [0x6B, 0x21, 0x04, 0x24, 1, 24, 4, 32, 0x02, 0x00, 16]

/-- The fields of a reply after its result code (Table 12-4). -/
def ReplyFields.bytes : ReplyFields → List Byte
  | .none => []
  | .identity => identityBytes
  | .status c => c.bytes
  | .link settings window => [settings.rate.code, settings.parity.code] ++ twoBytes window
  | .line l => [byteOf l.val]
  | .laneState st => [st.code]
  | .enqueued first count st detail => Half.bytes first ++ [byteOf count, st.code, byteOf detail]
  | .started failing states => orNone failing :: states.toList.map LaneState.code
  | .slotSpace st free => [st.code] ++ twoBytes free
  | .slotFilled st filled => [st.code, byteOf filled]
  | .slotUse useCount free => [byteOf useCount] ++ twoBytes free
  | .discarded count st => [byteOf count, st.code]
  | .marked st serial => [st.code] ++ Half.bytes serial
  | .aborted lanes states => LaneSet.byte lanes :: states.toList.map LaneState.code

/-- The frame of a message: a REPLY carries the tag of the frame it answers, then the echoed kind, the result code and the
fields (R177); a report has tag 0 and begins with its lost-before byte (R179). -/
def Message.frame : Message → Frame
  | .reply kind tag a => ⟨0x80, tag, [kind, ResultCode.value a.code] ++ a.fields.bytes⟩
  | .report lost r => ⟨r.kind, 0, byteOf lost :: r.fields⟩

/-! ### TXD -/

/-- The bits that a message puts on TXD, back to back (R151). -/
def Message.bits (m : Message) (p : Parity) : List Bool := m.frame.bytes.flatMap (charBits p)

/-- The level of TXD, true for high: the bit whose time has come of the message in transmission, else idle high (R151). -/
def State.txd (s : State) : Bool :=
  match s.tx.queue, s.tx.sending with
  | m :: _, some t => ((m.bits t.settings.parity)[(s.now - t.startedAt) * t.settings.rate.bps / Config.basePerSecond]?).getD true
  | _, _ => true

/-- The stop bit of the last CRC byte of the message at the head has been sent (R151). -/
def State.transmitted (s : State) : Bool :=
  match s.tx.queue, s.tx.sending with
  | m :: _, some t =>
    t.settings.rate.bitsIn (m.frame.size * t.settings.parity.charBits) (s.now - t.startedAt)
  | _, _ => false

end Sys2Proof.Machine
end

