-- ==== Sys2Proof/Machine/Ops.lean ====
section
/-! DEFINITION. The shared operations: records of the state, admission of messages, the acts of a lane on its lines, the step
boundary procedure, the entry to SAFE, and the taking of what an event has set off. -/

namespace Sys2Proof.Machine

/-! ### Records -/

/-- Lane n becomes `f` of what it was. -/
def State.updLane (s : State) (n : LaneNo) (f : LaneRec → LaneRec) : State :=
  { s with lanes := s.lanes.set n (f (s.lane n)) }

/-- Slot i becomes `f` of what it was. -/
def State.updSlot (s : State) (i : SlotNo) (f : Slot → Slot) : State :=
  { s with slots := s.slots.set i (f (s.slot i)) }

/-- Line l becomes `f` of what it was. -/
def State.updLine (s : State) (l : LineNo) (f : LineRec → LineRec) : State :=
  { s with lines := s.lines.set l (f (s.line l)) }

/-- Every line becomes `f` of its number and of what it was. -/
def State.mapLines (s : State) (f : LineNo → LineRec → LineRec) : State :=
  { s with lines := s.lines.mapFinIdx fun i r h => f ⟨i, h⟩ r }

/-- Trigger filter i takes a new value. -/
def State.setTrigger (s : State) (i : TrigNo) (t : TriggerFilter) : State :=
  { s with triggers := s.triggers.set i t }

/-- The lane state changes and nothing else of the lane does. -/
def State.setLaneState (s : State) (n : LaneNo) (st : LaneState) : State :=
  s.updLane n fun r => { r with state := st }

/-! ### Free choices -/

/-- The next free choice: from `choices` while it holds any, else the free value applied to the counter (log entry 3). -/
def State.draw (s : State) : Nat × State :=
  match s.choices with
  | c :: cs => (c, { s with choices := cs })
  | [] => (Config.freeChoice s.draws, { s with draws := s.draws + 1 })

/-- One of the elements of a list that is not empty, and the others; a choice is drawn only when there are two or more. -/
def State.pick {α : Type} (s : State) (x : α) (xs : List α) : α × List α × State :=
  match xs with
  | [] => (x, [], s)
  | y :: ys =>
    let i := s.draw.1 % (x :: y :: ys).length
    ((x :: y :: ys).getD i x, (x :: y :: ys).eraseIdx i, s.draw.2)

/-! ### Setting off (log entry 8) -/

/-- Events for other blocks to take at this instant join those that stand. -/
def State.sets (s : State) (es : List SetOff) : State := { s with setOff := s.setOff ++ es }

/-- A lane, or an input, sends one report: it is on its way to the outbound queue (R167). -/
def State.report (s : State) (r : Report) : State := s.sets [.reports [r]]

/-- The block that sends a report (Table 11-1, R171). -/
inductive Source where
  | lane (n : LaneNo)
  | part
  | killInput
  | keepaliveTimer
deriving DecidableEq, Repr

/-- The block that sends a report (Table 11-1, R171). -/
def Report.source : Report → Source
  | .stepEnd n .. => .lane n
  | .entryEnd n .. => .lane n
  | .laneState n .. => .lane n
  | .notice .resetDone => .part
  | .notice .killAsserted => .killInput
  | .notice .killReleased => .killInput
  | .notice .keepaliveExpired => .keepaliveTimer

/-- The reports of an event in flight. -/
def SetOff.carried : SetOff → List Report
  | .reports rs => rs
  | _ => []

/-- What is left of an event in flight once it has been taken: of reports, those behind the first. -/
def SetOff.left : SetOff → List SetOff
  | .reports (_ :: r :: rs) => [.reports (r :: rs)]
  | _ => []

/-- The report that the event would offer next stands behind one of its own source, so it is not its turn: the reports of one source are
offered in their order (R173). Every other order is open (R95, R105, R125, R136, R138, R151). -/
def SetOff.waitsFor (e : SetOff) (before : List SetOff) : Bool :=
  e.carried.head?.any fun q => before.any fun b => b.carried.any fun r => r.source == q.source

/-- The events in flight whose turn it is, each with those that then stand. -/
def takeable (before : List SetOff) : List SetOff → List (SetOff × List SetOff)
  | [] => []
  | e :: es =>
    (if e.waitsFor before then [] else [(e, before ++ (e.left ++ es))]) ++ takeable (before ++ [e]) es

/-! ### The outbound queue (R151, R152) -/

/-- A message joins the tail. One that finds no message in transmission begins at once, at the settings in force (R151). -/
def State.post (s : State) (m : Message) : State :=
  { s with tx := { s.tx with queue := s.tx.queue ++ [m],
                             sending := some (s.tx.sending.getD ⟨s.now, s.settings⟩) } }

/-- A report is offered: admitted with the report-loss counter as its lost-before while fewer than 6 messages are held, and
otherwise lost and counted (R152). -/
def State.offer (s : State) (r : Report) : State :=
  if s.held < Config.reportLimit then
    State.post { s with tx := { s.tx with loss := 0 } } (.report s.tx.loss r)
  else { s with tx := { s.tx with loss := saturate Config.lossMax s.tx.loss } }

/-- Every report in flight is offered, in the order in which they stand (R152, R159). -/
def State.offerAll (s : State) : State :=
  (s.setOff.flatMap SetOff.carried).foldl State.offer { s with setOff := s.setOff.filter fun e => e.carried.isEmpty }

/-- A change of lane state at an event of the lane's own is sent as LANE_STATE; one that is the direct result of a command
is not (`quiet`), since its reply carries it (R90, R170). -/
def State.tellState (s : State) (n : LaneNo) (quiet : Bool) (c : Cause) : State :=
  if quiet then s else s.report (.laneState n (s.lane n).state c)

/-! ### Acts of a lane on its lines (sections 1.3 and 1.5) -/

/-- Table 1-4: the effect of a pattern application on one line. -/
def LineState.applied (now : Nat) (named : Bool) : LineState → LineState
  | .float => if named then .pending now else .inactive
  | .inactive => if named then .pending now else .inactive
  | .pending since => if named then .pending since else .inactive
  | .active => if named then .active else .inactive

/-- A pattern application of lane n: every line the lane owns is treated by Table 1-4, in one event (R5). -/
def State.applyPattern (s : State) (n : LaneNo) (pattern : LineSet) : State :=
  s.mapLines fun l r => if r.owner = some n then { r with state := r.state.applied s.now (lineIn pattern l) } else r

/-- The lane applies its rest set (R30). -/
def State.applyRest (s : State) (n : LaneNo) : State := s.applyPattern n (s.lane n).config.restSet

/-- The state a safe level stands for. -/
def SafeLevel.state : SafeLevel → LineState
  | .inactive => .inactive
  | .float => .float

/-- A safe application of lane n: every line the lane owns goes at once to its safe level (R12). -/
def State.applySafe (s : State) (n : LaneNo) : State :=
  s.mapLines fun _ r => if r.owner = some n then { r with state := r.safeLevel.state } else r

/-- Every line lane n owns is set to INACTIVE: the first act of CLEAR_FAULT (R140). -/
def State.clearLines (s : State) (n : LaneNo) : State :=
  s.mapLines fun _ r => if r.owner = some n then { r with state := .inactive } else r

/-- Lines change hands at an accepted CONFIG_LANE: a line of lane n outside the new set is released to FLOAT with no owner, and a line
of the new set that the lane did not own becomes INACTIVE with the lane as its owner (R2, R13, R34). -/
def State.assignLines (s : State) (n : LaneNo) (lines : LineSet) : State :=
  s.mapLines fun l r =>
    if lineIn lines l then
      (if r.owner = some n then r else { r with owner := some n, state := .inactive })
    else (if r.owner = some n then { r with owner := none, state := .float } else r)

/-! ### Use counts and the queue (R43, R65, R66) -/

/-- An entry that is a PLAY entry gives back its reference to its slot (R65, R66). -/
def State.releaseUse (s : State) (b : EntryBody) : State :=
  match b with
  | .step _ => s
  | .play slot _ => s.updSlot slot fun x => { x with useCount := x.useCount - 1 }

/-- An entry that is a PLAY entry is counted in its slot (R49). -/
def State.raiseUse (s : State) (b : EntryBody) : State :=
  match b with
  | .step _ => s
  | .play slot _ => s.updSlot slot fun x => { x with useCount := x.useCount + 1 }

/-- The queue of lane n is discarded in one event: every entry goes, and each PLAY entry gives back its reference. No report is sent,
and the current entry and the next serial stay (R43). -/
def State.discardQueue (s : State) (n : LaneNo) : State :=
  ((s.lane n).queue.foldl (fun t e => t.releaseUse e.body) s).updLane n fun r => { r with queue := [] }

/-! ### Ends of steps and entries -/

/-- STEP_END is sent under report policy STEPS (R81, R169). -/
def State.reportStep (s : State) (n : LaneNo) (c : Current) (o : StepOutcome) (elapsed : Nat) : State :=
  if (s.lane n).config.policy = .steps then s.report (.stepEnd n c.entry.serial c.index c.pass o elapsed) else s

/-- The step in progress is over: its timers are removed with it (R77). -/
def State.dropStep (s : State) (n : LaneNo) : State := s.updLane n fun r => { r with run := none }

/-- The current entry of lane n ends: its use count is released, ENTRY_END is sent under policy ENTRIES or STEPS, and it ceases to be
current (R85). -/
def State.endEntry (s : State) (n : LaneNo) (c : Current) (o : EntryOutcome) (passes : Nat) : State :=
  let s := s.releaseUse c.entry.body
  let s := if (s.lane n).config.policy = .none then s else s.report (.entryEnd n c.entry.serial o passes)
  s.updLane n fun r => { r with current := none }

/-- The current entry, if there is one, is cut or stopped before its present pass ends (R115, R116, R132). -/
def State.cutEntry (s : State) (n : LaneNo) (o : EntryOutcome) : State :=
  match (s.lane n).current with
  | some c => s.endEntry n c o c.passesBefore
  | none => s

/-- The step in progress, if there is one, is cut: STEP_END with outcome CUT and the ticks elapsed, and its timers go (R116, R131). -/
def State.cutStep (s : State) (n : LaneNo) : State :=
  match (s.lane n).run, (s.lane n).current with
  | some _, some c => (s.reportStep n c .cut (s.elapsed n)).dropStep n
  | some _, none => s.dropStep n
  | none, _ => s

/-! ### Entry to SAFE (R131) -/

/-- The LANE_STATE that an entry to SAFE sends; for ABORT none, since the reply carries the change (Table 8-1). -/
def SafeCause.report : SafeCause → Option Cause
  | .abort => none
  | .kill => some .kill
  | .keepalive => some .keepalive
  | .interlock a p => some (.interlock a p)
  | .timeout serial index => some (.timeout serial index)

/-- Stage 6 of the entry to SAFE. -/
def State.reportSafe (s : State) (n : LaneNo) (c : SafeCause) : State :=
  match c.report with
  | some cause => s.report (.laneState n .safe cause)
  | none => s

/-- Stages 1 to 6 of the entry of lane n to SAFE, in their order: step cut, entry cut, queue discard, safe application, state and
FAULT_N, report (R131). -/
def State.safeStages (s : State) (n : LaneNo) (c : SafeCause) : State :=
  let s := s.cutStep n
  let s := s.cutEntry n .cut
  let s := s.discardQueue n
  let s := s.applySafe n
  let s := { s.setLaneState n .safe with faultN := true }
  s.reportSafe n c

/-- A cause of safe hold reaches lane n. One that finds it OFF or in SAFE leaves it as it is, without a report (R130). -/
def State.enterSafe (s : State) (n : LaneNo) (c : SafeCause) : State :=
  if (s.lane n).state = .off ∨ (s.lane n).state = .safe then s else s.safeStages n c

/-! ### The step boundary procedure (section 5.4) -/

/-- What stage 4 does with an entry: it continues at a cursor, or it ends with an outcome and a number of passes. -/
inductive CursorMove where
  | continues (c : Current)
  | ends (o : EntryOutcome) (passes : Nat)
deriving DecidableEq, Repr

/-- Stage 4's advance of the cursor, for a slot of `filled` steps (R84, Table 5-4). -/
def Current.move (c : Current) (filled : SlotNo → Nat) : CursorMove :=
  match c.entry.body with
  | .step _ => .ends .done 1
  | .play slot repeats =>
    if c.index + 1 < filled slot then .continues { c with index := c.index + 1 }
    else if c.breakPending then .ends .broken c.pass
    else if repeats ≠ 0 ∧ c.pass = repeats then .ends .done c.pass
    else .continues { c with index := 0, pass := c.pass + 1 }

/-- The filled counts of the library, slot by slot. -/
def State.filled (s : State) (i : SlotNo) : Nat := (s.slot i).filled

/-- A fresh cursor on an entry taken from the queue: step index 0, pass 1, break pending clear (R42). -/
def Current.first (e : Entry) : Current := ⟨e, 0, 1, false⟩

/-- Lane n returns to IDLE with its rest set applied (R92). -/
def State.goIdle (s : State) (n : LaneNo) : State := (s.applyRest n).setLaneState n .idle

/-- A boundary event goes to each lane that names lane n as its leader (R89, R99). -/
def State.tellFollowers (s : State) (n : LaneNo) : State := s.sets ((s.followers n).map .leaderBoundary)

/-- Stage 7: lane n, RUNNING, begins the step at its cursor. The active set is applied, the start time is recorded with the timers that
count from it, and a boundary event is sent to the lane's followers (R88). There is such a step when the cursor stands within its slot
(log entry 12). -/
def State.beginStep (s : State) (n : LaneNo) (c : Current) : State :=
  let s := s.updLane n fun r => { r with current := some c, state := .running }
  match s.stepAt c with
  | some st =>
    State.tellFollowers ((s.applyPattern n st.active).updLane n fun r => { r with run := some ⟨st, s.now, false, false⟩ }) n
  | none => s

/-- The head of lane n's queue becomes its current entry and its first step begins (R42, R73); with an empty queue nothing happens. -/
def State.beginHead (s : State) (n : LaneNo) : State :=
  match (s.lane n).queue with
  | e :: rest => (s.updLane n fun r => { r with queue := rest }).beginStep n (Current.first e)
  | [] => s

/-- Stages 6 and 7: the current entry's next step, else the queue head as new current entry, else the end action (R87). -/
def State.nextStep (s : State) (n : LaneNo) (quiet : Bool) : State :=
  match (s.lane n).current, (s.lane n).queue with
  | some c, _ => s.beginStep n c
  | none, _ :: _ => s.beginHead n
  | none, [] =>
    match (s.lane n).config.endAction with
    | .hold => (s.setLaneState n .starved).tellState n quiet .starved
    | .rest => (s.goIdle n).tellState n quiet .completed

/-- Stage 3 for a STOPPING lane: its entry ends with the outcome stage 4 would give, or STOPPED where it would continue; the rest set is
applied and the lane becomes IDLE (R83). Where it would continue, the passes completed are one less than the pass of the cursor stage
4 would move to (Table 5-4). -/
def State.stopHere (s : State) (n : LaneNo) (c : Current) (quiet : Bool) : State :=
  let s := match c.move s.filled with
    | .ends o passes => s.endEntry n c o passes
    | .continues c' => s.endEntry n c .stopped (c'.pass - 1)
  (s.goIdle n).tellState n quiet .stopped

/-- Stage 4: the cursor moves, or the entry ends (R84). -/
def State.moveCursor (s : State) (n : LaneNo) (c : Current) : State :=
  match c.move s.filled with
  | .continues c' => s.updLane n fun r => { r with current := some c' }
  | .ends o passes => s.endEntry n c o passes

/-- Stage 5 for a PAUSING lane: it holds the ended step's pattern (R86). -/
def State.pauseHere (s : State) (n : LaneNo) (quiet : Bool) : State :=
  (s.setLaneState n .paused).tellState n quiet .paused

/-- Stages 2 to 7, after the step report of stage 1 (R82 to R88). -/
def State.afterStep (s : State) (n : LaneNo) (c : Current) (o : StepOutcome) (quiet : Bool) : State :=
  if o = .timeout ∧ (s.lane n).config.timeoutAction = .fault then
    s.enterSafe n (.timeout c.entry.serial c.index)
  else if (s.lane n).state = .stopping then s.stopHere n c quiet
  else if (s.lane n).state = .pausing then (s.moveCursor n c).pauseHere n quiet
  else (s.moveCursor n c).nextStep n quiet

/-- The step boundary procedure of lane n, for a step that ends with an outcome and its elapsed ticks (R80, R81). -/
def State.boundary (s : State) (n : LaneNo) (o : StepOutcome) (elapsed : Nat) (quiet : Bool) : State :=
  match (s.lane n).current with
  | some c => ((s.reportStep n c o elapsed).dropStep n).afterStep n c o quiet
  | none => s.dropStep n

/-! ### Taking what has been set off -/

/-- Lane n, with a step in progress of the given advance, past its blanking, ends it with an outcome; in any other condition nothing
happens (Table 6-1, Table 6-3). -/
def State.advanceBy (s : State) (n : LaneNo) (a : Advance) (o : StepOutcome) : State :=
  match (s.lane n).run with
  | some r => if r.step.advance = a ∧ r.pastBlanking = true then s.boundary n o (s.elapsed n) false else s
  | none => s

/-- An edge reaches lane n, which compares its direction with its trigger edge field (R95). -/
def State.edgeAt (s : State) (n : LaneNo) (e : Edge) : State :=
  if (s.lane n).config.edge.accepts e then s.advanceBy n .edge .edge else s

/-- A sync edge reaches lane n: an ARMED lane takes its queue head and begins its first step, and sends LANE_STATE with cause SYNC;
any other lane does nothing (R125). -/
def State.syncLane (s : State) (n : LaneNo) : State :=
  match (s.lane n).state, (s.lane n).queue with
  | .armed, _ :: _ => (s.beginHead n).tellState n false .sync
  | _, _ => s

/-- One event in flight is taken by its block. Of reports the first is offered. -/
def State.take (s : State) : SetOff → State
  | .leaderBoundary m => s.advanceBy m .follow .follow
  | .edge n e => s.edgeAt n e
  | .syncEdge n => s.syncLane n
  | .safe n c => s.enterSafe n c
  | .reports (r :: _) => s.offer r
  | .reports [] => s

/-- A cause of safe hold goes to every lane that owns lines and is not in SAFE, with a notice beside it (R136, R138). -/
def State.holdLanes (s : State) (k : NoticeKind) (c : SafeCause) : State :=
  s.sets (.reports [.notice k] :: s.safeTargets.map (.safe · c))

/-- The event in flight is a cause of safe hold on its way to lane n. -/
def SetOff.holds (n : LaneNo) : SetOff → Bool
  | .safe m _ => m == n
  | _ => false

/-- The event in flight is an interlock block on its way to lane n. -/
def SetOff.blocks (n : LaneNo) : SetOff → Bool
  | .safe m (.interlock _ _) => m == n
  | _ => false

/-- The first event in flight of a kind, if there is one, is taken before what comes next (R13, R36, R76). -/
def State.takeFirst (s : State) (p : SetOff → Bool) : State :=
  match s.setOff.find? p with
  | some e => State.take { s with setOff := s.setOff.erase e } e
  | none => s

/-! ### The sync line -/

/-- This part releases SYNC_N, if it was pulling it low (R124, R127). -/
def SyncUnit.release (u : SyncUnit) (now : Nat) : SyncUnit :=
  match u.drive with
  | .idle => u
  | .driving _ => { u with drive := .idle, releasedAt := now }

/-! ### The link -/

/-- The Keepalive Timer restarts at a valid frame: the latch is cleared, and the remaining time is set to the full window (R153). -/
def Keepalive.restart (k : Keepalive) : Keepalive :=
  { k with latch := false, remaining := k.window * Config.keepaliveUnit }

/-- The receiver returns to hunting with an empty assembly buffer. -/
def State.hunt (s : State) : State := { s with rx := { s.rx with state := .hunting } }

/-- A link error counter changes. -/
def State.count (s : State) (f : LinkCounters → LinkCounters) : State :=
  { s with rx := { s.rx with counters := f s.rx.counters } }

/-- One more framing error (R150). -/
def LinkCounters.addFraming (c : LinkCounters) : LinkCounters := { c with framing := saturate Config.counterMax c.framing }
/-- One more parity error (R150). -/
def LinkCounters.addParity (c : LinkCounters) : LinkCounters := { c with parity := saturate Config.counterMax c.parity }
/-- One more CRC mismatch (R150). -/
def LinkCounters.addCrc (c : LinkCounters) : LinkCounters := { c with crc := saturate Config.counterMax c.crc }
/-- One more length byte out of range (R150). -/
def LinkCounters.addLength (c : LinkCounters) : LinkCounters := { c with length := saturate Config.counterMax c.length }
/-- One more gap (R150). -/
def LinkCounters.addGap (c : LinkCounters) : LinkCounters := { c with gap := saturate Config.counterMax c.gap }
/-- One more dropped frame (R150). -/
def LinkCounters.addDropped (c : LinkCounters) : LinkCounters := { c with dropped := saturate Config.counterMax c.dropped }

/-- A frame in progress is abandoned, and its counter increments: the receiver returns to hunting (R147). -/
def State.abandon (s : State) (f : LinkCounters → LinkCounters) : State := (s.count f).hunt

/-- A valid frame is handed on: to the inbound queue, else answered INBOUND_FULL, else dropped and counted (step 2 of R148). -/
def State.handOn (s : State) (f : Frame) : State :=
  if s.rx.inbound.length < Config.inboundDepth then { s with rx := { s.rx with inbound := s.rx.inbound ++ [f] } }
  else if s.held < Config.outboundDepth then s.post (.reply f.kind f.tag ⟨.inboundFull, .none, none⟩)
  else s.count LinkCounters.addDropped

/-- What the receiver does at the event at which the last byte of a valid frame is received (R148). -/
def State.acceptFrame (s : State) (f : Frame) : State :=
  (State.handOn { s with keepalive := s.keepalive.restart } f).hunt

/-- The frame that a complete assembly buffer holds: its length byte, N bytes, and two CRC bytes that match (R144, R145). -/
def frameOfBuffer (buffer : List Byte) : Option Frame :=
  match buffer with
  | n :: kind :: tag :: rest =>
    let payload := rest.take (n.toNat - 2)
    if rest.drop (n.toNat - 2) = Half.bytes (crc (n :: kind :: tag :: payload)) then some ⟨kind, tag, payload⟩ else none
  | _ => none

/-- A byte joins the assembly buffer: the length byte is checked when it comes, and the CRC when the frame has all its bytes; the gap is
counted from the row, taken as the character's end (R146, R147, R148, log entry 17). -/
def State.assemble (s : State) (buffer : List Byte) : State :=
  match buffer with
  | [] => s
  | n :: rest =>
    if n.toNat < 2 ∨ 242 < n.toNat then s.abandon LinkCounters.addLength
    else if rest.length < n.toNat + 2 then { s with rx := { s.rx with state := .inFrame (n :: rest) 0 } }
    else match frameOfBuffer (n :: rest) with
      | some f => s.acceptFrame f
      | none => s.abandon LinkCounters.addCrc

/-- A good character's byte reaches the receiver (R146): while hunting, 0xC5 starts a frame and any other byte is discarded. -/
def State.receiveByte (s : State) (b : Byte) : State :=
  match s.rx.state with
  | .hunting => if b = 0xC5 then { s with rx := { s.rx with state := .inFrame [] 0 } } else s
  | .inFrame buffer _ => s.assemble (buffer ++ [b])

/-! ### Commands (R157 to R161) -/

/-- The answer with a result code and fields, and no change of link settings. -/
def answer (code : ResultCode) (fields : ReplyFields) : Answer := ⟨code, fields, none⟩

/-- The Command Processor is executing a frame that carries this command, and the command's one event has not been taken. -/
def Execution.awaits (x : Execution) (c : Instr) : Bool := x.answer.isNone && x.frame.carries c

/-- The event of a command: its effect on the blocks, and its answer, which the reply carries at the completion (R159). A command
that the Processor is not executing has no event, and nothing happens (log entry 1). -/
def State.command (s : State) (c : Instr) (effect : State → State × Answer) : Out :=
  match s.proc with
  | .executing x =>
    if x.awaits c then
      .next { (effect s).1 with proc := .executing { x with answer := some (effect s).2 } }
    else .next s
  | .idle => .next s

end Sys2Proof.Machine
end

