-- ==== Sys2Proof/Machine/LinkEvents.lean ====
section
/-! DEFINITION. The events of the Link Receiver, the Command Processor and the Link Transmitter (chapters 9 and 10). -/

namespace Sys2Proof.Machine

/-- A start bit can have been recognized `chars` characters before now: after a framing error, RXD must first have been high for one bit
time (R143). All the time since is judged at the settings in force now, whatever they were before (log entry 19). -/
def State.hearsStart (s : State) (chars : Nat) : Bool :=
  match s.rx.quietFrom with
  | some t => s.settings.rate.bitsIn (1 + chars * s.settings.parity.charBits) (s.now - t)
  | none => true

/-- The wait for RXD high after a framing error goes on from a time, or is over (R143). -/
def State.waitOn (s : State) (quiet : Option Nat) : State := { s with rx := { s.rx with quietFrom := quiet } }

/-- The time of the wait after a character whose start bit was not recognized: from its end, since RXD has been low within it, but over
where its stop bit was high, which lasts one bit time (R143, log entries 7 and 17). -/
def State.quietAfter (s : State) (c : Character) : Option Nat := if c.startBit = false ∧ c.stopBit = true then none else some s.now

/-- START_BIT_RECOGNIZED: the settings at which the character is read are those in force now, and the gap timer waits for the character
(R147, R155). Not an event in pin reset, or within a character. Within the wait after a framing error the start bit is not recognized, and
since RXD is low the wait begins again (R143). -/
def execStartBitRecognized (s : State) : Out :=
  if s.isHeld = true ∨ s.rx.char.isSome = true then .next s
  else if s.hearsStart 0 = false then .next (s.waitOn (some s.now))
  else .next { s with rx := { s.rx with char := some s.settings, quietFrom := none } }

/-- The character in progress is over. -/
def State.endCharacter (s : State) (quiet : Option Nat) : State :=
  { s with rx := { s.rx with char := none, quietFrom := quiet } }

/-- CHARACTER_RECEIVED, at the end of the character (log entry 17), at the settings its start bit fixed, or those in force where no start bit
was given as an event (R143, R155, log entry 6). A start bit high again at its middle forms no character. A character error abandons a
frame in progress, or is discarded while hunting, and is counted by its kind (R146, R147). A character whose start bit the receiver could
not recognize after a framing error is none, and shows only that RXD has been low: so a break counts once, however long it is (R143). -/
def execCharacterReceived (c : Character) (s : State) : Out :=
  if s.isHeld then .next s
  else if s.hearsStart (if c.startBit then 0 else 1) = false then .next (s.waitOn (s.quietAfter c))
  else if c.startBit then .next (s.endCharacter none)
  else
    match checkCharacter (s.rx.char.getD s.settings).parity c with
    | .framing => .next ((s.endCharacter (some s.now)).abandon LinkCounters.addFraming)
    | .parity => .next ((s.endCharacter none).abandon LinkCounters.addParity)
    | .good => .next ((s.endCharacter none).receiveByte c.data)

/-- The gap expiry is due: in a frame, 20 character times have passed since its last character and no further one has begun (R147). -/
def State.gapDue (s : State) : Bool :=
  match s.rx.state, s.rx.char with
  | .inFrame _ gap, none => gapLimit ≤ gap
  | _, _ => false

/-- GAP_EXPIRY: the frame is abandoned and the gap counter increments (R147). -/
def execGapExpiry (s : State) : Out := if s.gapDue then .next (s.abandon LinkCounters.addGap) else .next s

/-- VALID_FRAME: the last byte of a frame with a matching CRC is received, given whole (R148, log entry 6). -/
def execValidFrame (f : Frame) (s : State) : Out :=
  if s.isHeld = true ∨ f.wf = false ∨ s.hearsStart f.size = false then .next s else .next ((s.endCharacter none).acceptFrame f)

/-- The Command Processor may take the inbound head: it is idle, a frame waits, the outbound queue has room, and start-up has taken
place (R157). -/
def State.takeDue (s : State) : Bool :=
  s.proc == .idle && !s.rx.inbound.isEmpty && decide (s.held < Config.outboundDepth) && s.phase == .started

/-- The bound of a command, in base periods: 400 µs for APPEND_SEQ and 50 µs for every other (R159). -/
def commandBound (f : Frame) : Nat := if f.kind = 0x0D then Config.appendBound else Config.commandBound

/-- What the general checks answer at the take: a refusal with no fields, or nothing yet (R160, R161). -/
def generalRefusal (f : Frame) : Option Answer :=
  match decodeFrame f with
  | .error code => some (answer code .none)
  | .ok _ => none

/-- FRAME_TAKE: the head leaves the inbound queue, the Processor executes it, an outbound entry is reserved, and the general checks are
made (R157, R158, R160). Two free choices fix, within the bound, the instants of its event and its completion (R159). -/
def execFrameTake (s : State) : Out :=
  if s.takeDue then
    match s.rx.inbound with
    | f :: rest =>
      let a := s.draw
      let b := a.2.draw
      .next { b.2 with
        rx := { s.rx with inbound := rest },
        proc := .executing ⟨f, generalRefusal f, s.now + a.1 % (commandBound f + 1), s.now + b.1 % (commandBound f + 1)⟩ }
    | [] => .next s
  else .next s

/-- COMMAND_COMPLETION: once the command's event has been taken, its reply fills the reserved entry at the tail of the outbound queue,
behind every report sent before it, and the Processor becomes idle (R158, R159, R161). -/
def execCommandCompletion (s : State) : Out :=
  match s.proc with
  | .executing x =>
    match x.answer with
    | some a => .next (State.post { s.offerAll with proc := .idle } (.reply x.frame.kind x.frame.tag a))
    | none => .next s
  | .idle => .next s

/-- The change of link settings that a sent message brings into force (R155). -/
def Message.change : Message → Option LinkSettings
  | .reply _ _ a => a.change
  | .report _ _ => none

/-- The message at the head leaves the queue, the settings attached to it come into force, and the next message begins at once (R151,
R155). -/
def State.sendNext (s : State) : State :=
  match s.tx.queue with
  | m :: rest =>
    let c := m.change.getD s.settings
    { s with settings := c,
             tx := { s.tx with queue := rest, sending := (match rest with
               | [] => none
               | _ :: _ => some ⟨s.now, c⟩) } }
  | [] => s

/-- TRANSMISSION_END, due when the stop bit of the head's last CRC byte has been sent (R151, R155). -/
def execTransmissionEnd (s : State) : Out := if s.transmitted then .next s.sendNext else .next s

end Sys2Proof.Machine
end

