-- ==== Sys2Proof/Machine/Reset.lean ====
section
/-! DEFINITION. PIN_RESET, RESET_RELEASE and START_UP_EVENT (R142, R166). -/

namespace Sys2Proof.Machine

/-- PIN_RESET: RST_N is asserted, or power comes up. All state of every block takes its reset value; a frame in execution goes without a
reply, a message in transmission is cut off, and what had been set off finds nothing to act on (R166). Time, the queue of events still to
be taken and the model's own choices are no state of a block. -/
def execPinReset (s : State) : Out :=
  .next { State.reset with now := s.now, pending := s.pending, choices := s.choices, draws := s.draws }

/-- RESET_RELEASE: the link takes the rate of the straps and parity NONE, the receiver hunts, and the filters begin to adopt levels
(R142, R146, R166). Not an event unless RST_N is asserted. -/
def execResetRelease (straps : BitVec 2) (s : State) : Out :=
  if s.isHeld then
    .next { s with
      phase := .starting s.now, settings := ⟨Rate.ofStraps straps, .none⟩, rx := { s.rx with state := .hunting },
      triggers := s.triggers.map fun f => { f with since := s.now },
      sync := { s.sync with since := s.now }, kill := { s.kill with since := s.now } }
  else .next s

/-- The start-up event is due: 1 ms after the release of RST_N (R166). -/
def State.startUpDue (s : State) : Bool :=
  match s.phase with
  | .starting t => t + Config.startUpDelay ≤ s.now
  | _ => false

/-- START_UP_EVENT: RESET_DONE is offered, then KILL_ASSERTED when KILL_N is asserted, and the Command Processor may take frames (R166). -/
def execStartUpEvent (s : State) : Out :=
  if s.startUpDue then
    let t := s.offer (.notice .resetDone)
    let t := if t.kill.asserted then t.offer (.notice .killAsserted) else t
    .next { t with phase := .started }
  else .next s

end Sys2Proof.Machine
end

