-- ==== Sys2Proof/Machine/Timers.lean ====
section
/-! DEFINITION. The timers of a step and of a PENDING line: STEP_END_TIMER, BLANKING_END, STEP_TIMEOUT and GUARD_EXPIRY. -/

namespace Sys2Proof.Machine

/-- The end timer of lane n's TIME step has run out (R77). -/
def State.endTimerDue (s : State) (n : LaneNo) : Bool :=
  match (s.lane n).run with
  | some r => r.step.advance == .time && s.ticksReached n r r.step.duration
  | none => false

/-- The blanking end of lane n's EDGE or FOLLOW step is due (R96). -/
def State.blankingDue (s : State) (n : LaneNo) : Bool :=
  match (s.lane n).run with
  | some r => r.step.advance != .time && !r.pastBlanking && s.ticksReached n r (s.lane n).config.blanking
  | none => false

/-- The timeout of lane n's EDGE or FOLLOW step is due (R101). -/
def State.timeoutDue (s : State) (n : LaneNo) : Bool :=
  match (s.lane n).run with
  | some r => r.step.advance != .time && s.ticksReached n r r.step.duration
  | none => false

/-- A step that ends by its own timer: its recorded ticks are its duration d (R81, R103). -/
def State.endByTimer (s : State) (n : LaneNo) (o : StepRun → StepOutcome) : State :=
  match (s.lane n).run with
  | some r => s.boundary n (o r) r.step.duration false
  | none => s

/-- STEP_END_TIMER: the step ends with outcome TIME, or AMENDED for an amended step (R77, R120). -/
def execStepEndTimer (n : LaneNo) (s : State) : Out :=
  if s.endTimerDue n then .next (s.endByTimer n fun r => if r.amended then .amended else .time) else .next s

/-- BLANKING_END: the step in progress is marked as past blanking, and nothing else happens (R96). -/
def execBlankingEnd (n : LaneNo) (s : State) : Out :=
  if s.blankingDue n then
    .next (s.updLane n fun x => { x with run := x.run.map fun r => { r with pastBlanking := true } })
  else .next s

/-- STEP_TIMEOUT: the step ends with outcome TIMEOUT (R101). -/
def execStepTimeout (n : LaneNo) (s : State) : Out :=
  if s.timeoutDue n then .next (s.endByTimer n fun _ => .timeout) else .next s

/-- The partner of line l is ACTIVE: its number, if so (R8). -/
def State.activePartner (s : State) (l : LineNo) : Option LineNo :=
  match s.partner l with
  | some p => if (s.line p).state = .active then some p else none
  | none => none

/-- GUARD_EXPIRY at line l: with an ACTIVE partner the activation is withheld, the line becomes INACTIVE and an interlock block goes to the
lane that owns it, which takes it as an event of its own; otherwise the line becomes ACTIVE (R8, R10). -/
def execGuardExpiry (l : LineNo) (s : State) : Out :=
  if s.guardDue l then
    match s.activePartner l, (s.line l).owner with
    | some p, some n => .next ((s.updLine l fun r => { r with state := .inactive }).sets [.safe n (.interlock l p)])
    | some _, none => .next (s.updLine l fun r => { r with state := .inactive })
    | none, _ => .next (s.updLine l fun r => { r with state := .active })
  else .next s

end Sys2Proof.Machine
end

