-- ==== Sys2Proof/Machine/Clock.lean ====
section
/-! DEFINITION. Time. When no command or event waits in the queue, the part takes one of the events that have been set off or have fallen
due, and when there is none, one base period passes (log entry 2). -/

namespace Sys2Proof.Machine

/-- The lane numbers. -/
def allLanes : List LaneNo := List.finRange 4

/-- One base period of CLKIN passes: the keepalive time and the sync pulse run down, and the gap count of a frame in progress runs up at the
settings in force. Every other timer is kept as a start time. -/
def State.tick (s : State) : State :=
  { s with
    now := s.now + 1,
    keepalive := if s.keepalive.running then { s.keepalive with remaining := s.keepalive.remaining - 1 } else s.keepalive,
    sync := (match s.sync.drive with
      | .driving r => { s.sync with drive := .driving (r - 1) }
      | .idle => s.sync),
    rx := (match s.rx.state with
      | .inFrame b gap => { s.rx with state := .inFrame b (gap + s.settings.gapStep) }
      | .hunting => s.rx) }

/-- This part has held SYNC_N low for the two base periods after which its filter takes the low level (R124, R127). Once REINIT has released
the line, even at the instant that completes them, it no longer has (DESIGN CHOICE, log entry 20). -/
def State.ownPulseSeen (s : State) : Bool :=
  !s.isHeld && s.syncSteady && match s.sync.drive with
  | .driving r => r + Config.edgeFilter ≤ Config.pulseLength
  | .idle => false

/-- The event, or the completion, of the frame being executed has come to the instant the free choices gave it (R159). -/
def State.commandDue (s : State) : List Instr :=
  match s.proc with
  | .idle => []
  | .executing x =>
    match x.answer with
    | some _ => if x.completeAt ≤ s.now then [.commandCompletion] else []
    | none =>
      match decodeFrame x.frame with
      | .ok c => if x.eventAt ≤ s.now then [c] else []
      | .error _ => []

/-- The element, when a condition holds. -/
def whenDue (b : Bool) (i : Instr) : List Instr := if b then [i] else []

/-- The events of the part itself that have fallen due by now. Edges and changes of level at the pins, and characters, come from outside
and stand in the queue; of them only what this part's own sync pulse must cause is here (R127). -/
def State.dueEvents (s : State) : List Instr :=
  whenDue s.startUpDue .startUpEvent
  ++ whenDue (s.keepalive.running && s.keepalive.remaining == 0) .keepaliveExpiry
  ++ whenDue (s.sync.drive == .driving 0) .syncPulseExpiry
  ++ whenDue (s.ownPulseSeen && s.sync.adopted && s.sync.level == .high) .syncEdge
  ++ whenDue (s.ownPulseSeen && !s.sync.adopted) (.filterLevelAdopted .syncN .low)
  ++ whenDue s.gapDue .gapExpiry
  ++ whenDue s.transmitted .transmissionEnd
  ++ whenDue s.takeDue .frameTake
  ++ s.commandDue
  ++ (allLanes.filter s.endTimerDue).map .stepEndTimer
  ++ (allLanes.filter s.blankingDue).map .blankingEnd
  ++ (allLanes.filter s.timeoutDue).map .stepTimeout
  ++ ((List.finRange 24).filter s.guardDue).map .guardExpiry

/-- What may happen on an empty queue: a row that has fallen due, or an event in flight whose turn it is, with those that then stand. -/
inductive Happening where
  | row (c : Instr)
  | setOff (e : SetOff) (standing : List SetOff)
deriving DecidableEq, Repr

/-- All that may happen at this instant. -/
def State.happenings (s : State) : List Happening :=
  (takeable [] s.setOff).map (fun p => .setOff p.1 p.2) ++ s.dueEvents.map .row

/-- What happens on an empty queue: one of these, in an order that the free choices settle, or nothing. -/
def State.nextHappening (s : State) : Option (Happening × State) :=
  match s.happenings with
  | [] => none
  | h :: hs => some ((s.pick h hs).1, (s.pick h hs).2.2)

end Sys2Proof.Machine
end

