-- ==== Sys2Proof/Machine/Inputs.lean ====
section
/-! DEFINITION. The events of the trigger inputs and of the sync line, and the adoption of levels by the input filters (R94, R124,
R135). -/

namespace Sys2Proof.Machine

/-- The level from which an edge of this direction comes. -/
def Edge.before : Edge → Level
  | .rising => .low
  | .falling => .high

/-- The level to which an edge of this direction goes. -/
def Edge.after : Edge → Level
  | .rising => .high
  | .falling => .low

/-- The lanes whose record names trigger input i (R95). -/
def State.triggerLanes (s : State) (i : TrigNo) : List LaneNo :=
  (List.finRange 4).filter fun n => (s.lane n).config.trigger == some i

/-- TRIGGER_EDGE: the filtered level of an input changes, and the edge is delivered to every lane that names the input (R94, R95). Not an
event in pin reset, before the filter has adopted a level, from a level that the input does not have, or before the pin can have stood at
the new level for 0.2 µs. An edge that a lane has still to take at a REINIT finds the lane OFF (R107, R165, log entry 18). -/
def execTriggerEdge (i : TrigNo) (e : Edge) (s : State) : Out :=
  if s.isHeld = true ∨ (s.trigger i).adopted = false ∨ s.triggerSteady i = false ∨ (s.trigger i).level ≠ Edge.before e then .next s
  else .next ((s.setTrigger i ⟨Edge.after e, true, s.now⟩).sets ((s.triggerLanes i).map (.edge · e)))

/-- The lanes in ARMED. -/
def State.armedLanes (s : State) : List LaneNo := (List.finRange 4).filter fun n => (s.lane n).state == .armed

/-- SYNC_EDGE: the filtered level of SYNC_N falls, and the edge is delivered to every ARMED lane (R124, R125). -/
def execSyncEdge (s : State) : Out :=
  if s.isHeld = true ∨ s.sync.adopted = false ∨ s.syncSteady = false ∨ s.sync.level = .low then .next s
  else .next (State.sets { s with sync := { s.sync with level := .low, since := s.now } } (s.armedLanes.map .syncEdge))

/-- SYNC_LOW_TO_HIGH: the filtered level rises; this reaches no lane. The line cannot have held high while this part drives it low
(R124). -/
def execSyncLowToHigh (s : State) : Out :=
  if s.isHeld = true ∨ s.sync.adopted = false ∨ s.syncSteady = false ∨ s.syncFree = false ∨ s.sync.level = .high then .next s
  else .next { s with sync := { s.sync with level := .high, since := s.now } }

/-- SYNC_PULSE_EXPIRY: the 20 base periods are over, SYNC_N is released and the drive returns to IDLE (R127). -/
def execSyncPulseExpiry (s : State) : Out :=
  if s.sync.drive = .driving 0 then .next { s with sync := s.sync.release s.now } else .next s

/-- The filter of an input adopts a level after a pin reset. It produces no edge; but KILL_N adopting the asserted level after the
start-up event is a kill assertion (R94, R124, R135). Not an event once a level has been adopted, or before the pin can have stood at this
one for the filter's time. -/
def State.adopt (s : State) : FilteredInput → Level → State
  | .trigger i, v =>
    if (s.trigger i).adopted = true ∨ s.triggerSteady i = false then s else s.setTrigger i ⟨v, true, s.now⟩
  | .syncN, v =>
    if s.sync.adopted = true ∨ s.syncSteady = false ∨ (v = .high ∧ s.syncFree = false) then s
    else { s with sync := { s.sync with level := v, adopted := true, since := s.now } }
  | .killN, v =>
    if s.kill.adopted = true ∨ s.killSteady = false then s
    else
      let t := { s with kill := ⟨decide (v = .low), true, s.now⟩ }
      if v = .low ∧ t.phase = .started then t.holdLanes .killAsserted .kill else t

/-- FILTER_LEVEL_ADOPTED (R94). -/
def execFilterLevelAdopted (input : FilteredInput) (level : Level) (s : State) : Out :=
  if s.isHeld then .next s else .next (s.adopt input level)

end Sys2Proof.Machine
end

