-- ==== Sys2Proof/Machine/Intervening.lean ====
section
/-! DEFINITION. PAUSE, RESUME, STOP, BREAK, AMEND, FLUSH and PULSE_SYNC (chapter 7). -/

namespace Sys2Proof.Machine

/-- The answer of a command whose reply carries the lane's state after it (R109). -/
def State.laneAnswer (s : State) (n : LaneNo) (code : ResultCode) : State × Answer := (s, answer code (.laneState (s.lane n).state))

/-- PAUSE, by the lane's state (R110). -/
def pauseEffect (n : LaneNo) (s : State) : State × Answer :=
  match (s.lane n).state with
  | .running => (s.setLaneState n .pausing).laneAnswer n .ok
  | .starved => (s.setLaneState n .paused).laneAnswer n .ok
  | .pausing | .paused => s.laneAnswer n .ok
  | .off | .idle | .armed | .stopping | .safe => s.laneAnswer n .wrongState

/-- PAUSE (R110). -/
def execPause (n : LaneNo) (s : State) : Out := s.command (.pause n) (pauseEffect n)

/-- RESUME, by the lane's state: a PAUSED lane takes stages 6 and 7 in the event of the command, RUNNING (R112). -/
def resumeEffect (n : LaneNo) (s : State) : State × Answer :=
  match (s.lane n).state with
  | .pausing => (s.setLaneState n .running).laneAnswer n .ok
  | .paused => ((s.setLaneState n .running).nextStep n true).laneAnswer n .ok
  | .off | .idle | .armed | .running | .starved | .stopping | .safe => s.laneAnswer n .wrongState

/-- RESUME (R112). -/
def execResume (n : LaneNo) (s : State) : Out := s.command (.resume n) (resumeEffect n)

/-- STOP with mode BOUNDARY, after the discard (R115). -/
def State.stopBoundary (s : State) (n : LaneNo) : State :=
  match (s.lane n).state with
  | .running | .pausing => s.setLaneState n .stopping
  | .paused => (s.cutEntry n .stopped).goIdle n
  | .starved => s.goIdle n
  | .armed => s.setLaneState n .idle
  | .stopping | .off | .idle | .safe => s

/-- STOP with mode NOW, after the discard: the step is cut, the entry ends CUT, the rest set is applied and the lane becomes IDLE; in
ARMED no line changes (R116). -/
def State.stopNow (s : State) (n : LaneNo) : State :=
  if (s.lane n).state = .armed then s.setLaneState n .idle else ((s.cutStep n).cutEntry n .cut).goIdle n

/-- STOP: the mode, then the state, are checked; the queue is discarded first (R114). -/
def stopEffect (n : LaneNo) (mode : Byte) (s : State) : State × Answer :=
  match StopMode.ofCode mode with
  | none => (s, answer .badValue (.discarded 0 (s.lane n).state))
  | some m =>
    if (s.lane n).state = .off ∨ (s.lane n).state = .idle ∨ (s.lane n).state = .safe then
      (s, answer .wrongState (.discarded 0 (s.lane n).state))
    else
      let t := match m with
        | .boundary => (s.discardQueue n).stopBoundary n
        | .now => (s.discardQueue n).stopNow n
      (t, answer .ok (.discarded (s.lane n).queue.length (t.lane n).state))

/-- STOP (R114). -/
def execStop (n : LaneNo) (mode : Byte) (s : State) : Out := s.command (.stop n mode) (stopEffect n mode)

/-- BREAK sets the break-pending mark of a current PLAY entry (R118). -/
def breakEffect (n : LaneNo) (s : State) : State × Answer :=
  match (s.lane n).current with
  | none => (s, answer .wrongState (.marked (s.lane n).state 0))
  | some c =>
    match c.entry.body with
    | .step _ => (s, answer .wrongEntry (.marked (s.lane n).state c.entry.serial))
    | .play _ _ =>
      (s.updLane n fun r => { r with current := some { c with breakPending := true } },
       answer .ok (.marked (s.lane n).state c.entry.serial))

/-- BREAK (R118). -/
def execBreak (n : LaneNo) (s : State) : Out := s.command (.breakPass n) (breakEffect n)

/-- The checks of AMEND in their order: the current entry and its step in progress, or the result code of the first check that
fails (R120). Without a step in progress the lane is in none of the states of check 1. -/
def amendCheck (n : LaneNo) (serial d : Half) (s : State) : Except ResultCode StepRun :=
  if (s.lane n).state ≠ .running ∧ (s.lane n).state ≠ .pausing ∧ (s.lane n).state ≠ .stopping then .error .wrongState
  else match (s.lane n).current, (s.lane n).run with
    | some c, some r =>
      if d = 0 then .error .badValue
      else match c.entry.body with
        | .play _ _ => .error .wrongEntry
        | .step _ =>
          if c.entry.serial ≠ serial then .error .stale
          else if (s.lane n).config.ticks d.toNat ≤ (s.lane n).config.guard
              ∨ (r.step.advance ≠ .time ∧ d.toNat ≤ (s.lane n).config.blanking) then .error .tooShort
          else .ok r
    | _, _ => .error .wrongState

/-- AMEND: a new d not above the elapsed ticks ends the step at once with outcome AMENDED, and a longer one moves its timer (R120). -/
def amendEffect (n : LaneNo) (serial d : Half) (s : State) : State × Answer :=
  match amendCheck n serial d s with
  | .error code => s.laneAnswer n code
  | .ok r =>
    if d.toNat ≤ s.elapsed n then (s.boundary n .amended (s.elapsed n) true).laneAnswer n .ok
    else
      (s.updLane n fun x => { x with run := some { r with step := { r.step with duration := d.toNat }, amended := true } }).laneAnswer n .ok

/-- AMEND (R120). -/
def execAmend (n : LaneNo) (serial d : Half) (s : State) : Out := s.command (.amend n serial d) (amendEffect n serial d)

/-- FLUSH discards the queue and leaves the current entry; an ARMED lane becomes IDLE (R122). -/
def flushEffect (n : LaneNo) (s : State) : State × Answer :=
  if (s.lane n).state = .off ∨ (s.lane n).state = .safe then (s, answer .wrongState (.discarded 0 (s.lane n).state))
  else
    let t := s.discardQueue n
    let t := if (s.lane n).state = .armed then t.setLaneState n .idle else t
    (t, answer .ok (.discarded (s.lane n).queue.length (t.lane n).state))

/-- FLUSH (R122). -/
def execFlush (n : LaneNo) (s : State) : Out := s.command (.flush n) (flushEffect n)

/-- PULSE_SYNC drives SYNC_N low for 20 base periods, or answers BUSY (R127). -/
def pulseSyncEffect (s : State) : State × Answer :=
  match s.sync.drive with
  | .idle => ({ s with sync := { s.sync with drive := .driving Config.pulseLength } }, answer .ok .none)
  | .driving _ => (s, answer .busy .none)

/-- PULSE_SYNC (R127). -/
def execPulseSync (s : State) : Out := s.command .pulseSync pulseSyncEffect

end Sys2Proof.Machine
end

