-- ==== Sys2Proof/Machine/LaneCommands.lean ====
section
/-! DEFINITION. CONFIG_LANE, ENQUEUE and START (sections 2.7, 3.5 and 5.2). -/

namespace Sys2Proof.Machine

/-! ### CONFIG_LANE -/

/-- The checks of CONFIG_LANE in their order: the record to take, or the result code of the first that fails (R33). -/
def configLaneCheck (n : LaneNo) (raw : RawConfig) (s : State) : Except ResultCode LaneConfig :=
  if (s.lane n).state ≠ .off ∧ (s.lane n).state ≠ .idle then .error .wrongState
  else if (s.lane n).queue ≠ [] then .error .wrongState
  else match configOfRaw raw with
    | none => .error .badValue
    | some c =>
      if s.lineTaken n c.lines = true then .error .lineTaken
      else if holdsPair s.partner c.restSet = true then .error .interlock
      else if s.leaderInvalid n c.leader = true then .error .leaderInvalid
      else if s.kill.asserted = true ∧ c.lines ≠ 0 then .error .killActive
      else .ok c

/-- The acts of an accepted CONFIG_LANE, in their order: record, releases, OFF for an empty line set, else gains, IDLE and the rest set
under the new guard (R34). -/
def State.configure (s : State) (n : LaneNo) (c : LaneConfig) : State :=
  let s := (s.updLane n fun r => { r with config := c }).assignLines n c.lines
  if c.lines = 0 then s.setLaneState n .off else (s.setLaneState n .idle).applyRest n

/-- CONFIG_LANE: the reply carries the lane's state after the command (R35). -/
def configureEffect (n : LaneNo) (raw : RawConfig) (s : State) : State × Answer :=
  match configLaneCheck n raw s with
  | .error code => (s, answer code (.laneState (s.lane n).state))
  | .ok c => (s.configure n c, answer .ok (.laneState ((s.configure n c).lane n).state))

/-- CONFIG_LANE, on the lane as a cause of safe hold that has been sent to it leaves it: an assertion, expiry or withheld activation that
comes first has put the lane in SAFE, and the command is refused (R13, R36, log entry 8). -/
def configLaneEffect (n : LaneNo) (raw : RawConfig) (s : State) : State × Answer := configureEffect n raw (s.takeFirst (SetOff.holds n))

/-- CONFIG_LANE (R33, R34). -/
def execConfigLane (n : LaneNo) (raw : RawConfig) (s : State) : Out := s.command (.configLane n raw) (configLaneEffect n raw)

/-! ### ENQUEUE -/

/-- The lane states in which ENQUEUE is accepted (R47). -/
def LaneState.takesEntries : LaneState → Bool
  | .idle | .armed | .running | .starved | .pausing | .paused => true
  | .off | .stopping | .safe => false

/-- The checks of one entry against a lane: its body, or the result code of the first that fails (check 2 of R48). -/
def State.checkEntry (s : State) (n : LaneNo) : RawEntry → Except ResultCode EntryBody
  | .unknown _ => .error .badValue
  | .step raw =>
    match stepOfRaw raw with
    | none => .error .badValue
    | some st =>
      match stepCheck (s.lane n).config s.partner st with
      | some code => .error code
      | none => .ok (.step st)
  | .play id repeats =>
    match slotOfCode id with
    | none => .error .noSequence
    | some i =>
      match (s.slot i).state with
      | .free => .error .noSequence
      | .opened => .error .seqOpen
      | .sealed =>
        match stepsCheck (s.lane n).config s.partner (s.slot i).steps with
        | some code => .error code
        | none => if repeats.toNat ≤ 255 then .ok (.play i repeats.toNat) else .error .badValue

/-- The entries of a command checked in turn, from index `i`: their bodies, or the code and index of the first that fails (R48). -/
def State.checkEntries (s : State) (n : LaneNo) : Nat → List RawEntry → Except (ResultCode × Nat) (List EntryBody)
  | _, [] => .ok []
  | i, e :: es =>
    match s.checkEntry n e with
    | .error code => .error (code, i)
    | .ok b =>
      match s.checkEntries n (i + 1) es with
      | .error x => .error x
      | .ok bs => .ok (b :: bs)

/-- All checks of ENQUEUE in their order, with the detail byte of a refusal (R47, R48, R51). -/
def enqueueCheck (n : LaneNo) (entries : List RawEntry) (s : State) : Except (ResultCode × Nat) (List EntryBody) :=
  if (s.lane n).state.takesEntries = false then .error (.wrongState, 0)
  else if (s.lane n).freeRoom < entries.length then .error (.queueFull, (s.lane n).freeRoom)
  else s.checkEntries n 0 entries

/-- Accepted entries take serials, join the tail, and raise the use counts of the slots they name (R40, R49). -/
def State.acceptEntries (s : State) (n : LaneNo) (bodies : List EntryBody) : State :=
  (bodies.foldl State.raiseUse s).updLane n fun r =>
    { r with queue := r.queue ++ numberEntries r.nextSerial bodies, nextSerial := r.nextSerial + BitVec.ofNat 16 bodies.length }

/-- A STARVED lane begins the first of its new entries at once (R50). -/
def State.beginIfStarved (s : State) (n : LaneNo) : State :=
  if (s.lane n).state = .starved then s.nextStep n true else s

/-- ENQUEUE: all or nothing (R48 to R51). -/
def enqueueEffect (n : LaneNo) (entries : List RawEntry) (s : State) : State × Answer :=
  match enqueueCheck n entries s with
  | .error x => (s, answer x.1 (.enqueued (s.lane n).nextSerial 0 (s.lane n).state x.2))
  | .ok bodies =>
    let t := (s.acceptEntries n bodies).beginIfStarved n
    (t, answer .ok (.enqueued (s.lane n).nextSerial entries.length (t.lane n).state 0))

/-- ENQUEUE (R48). -/
def execEnqueue (n : LaneNo) (entries : List RawEntry) (s : State) : Out := s.command (.enqueue n entries) (enqueueEffect n entries)

/-! ### START -/

/-- The first lane of the list that fails check 2, with its result code: not IDLE, or an empty queue (R72). -/
def State.startFailure (s : State) : List LaneNo → Option (LaneNo × ResultCode)
  | [] => none
  | n :: ns =>
    if (s.lane n).state ≠ .idle then some (n, .wrongState)
    else if (s.lane n).queue = [] then some (n, .empty)
    else s.startFailure ns

/-- An accepted START: every lane begins in the one event, or every lane becomes ARMED (R73, R74). -/
def State.startSet (s : State) (ns : List LaneNo) : StartMode → State
  | .now => ns.foldl State.beginHead s
  | .onSync => ns.foldl (fun t n => t.setLaneState n .armed) s

/-- START: the reply names the failing lane of check 2, and carries the states of the four lanes after the command's
own event (R72, R75, log entry 11). -/
def startLanesEffect (lanes : LaneSet) (mode : Byte) (s : State) : State × Answer :=
  match StartMode.ofCode mode, lanesOf lanes with
  | none, _ => (s, answer .badValue (.started none s.laneStates))
  | some _, [] => (s, answer .badValue (.started none s.laneStates))
  | some m, n :: ns =>
    match s.startFailure (n :: ns) with
    | some x => (s, answer x.2 (.started (some x.1) s.laneStates))
    | none => (s.startSet (n :: ns) m, answer .ok (.started none (s.startSet (n :: ns) m).laneStates))

/-- START, on the lanes of its set as the interlock blocks that have been sent to them leave them: a withheld activation that comes first has
put its lane in SAFE, and the command is refused (R76, log entry 8). -/
def startEffect (lanes : LaneSet) (mode : Byte) (s : State) : State × Answer :=
  startLanesEffect lanes mode ((lanesOf lanes).foldl (fun t n => t.takeFirst (SetOff.blocks n)) s)

/-- START (R72). -/
def execStart (lanes : LaneSet) (mode : Byte) (s : State) : Out := s.command (.start lanes mode) (startEffect lanes mode)

end Sys2Proof.Machine
end

