-- ==== Sys2Proof/Machine/LibraryCommands.lean ====
section
/-! DEFINITION. OPEN_SEQ, APPEND_SEQ and DELETE_SEQ: the commands of the sequence library (chapter 4). -/

namespace Sys2Proof.Machine

/-- OPEN_SEQ: its four checks in order (R57), then the slot is OPEN with the declared length and no steps (R58). -/
def openSeqEffect (id length : Byte) (s : State) : State × Answer :=
  match slotOfCode id with
  | none => (s, answer .badValue (.slotSpace .free s.freeSpace))
  | some i =>
    if (s.slot i).state ≠ .free then (s, answer .wrongState (.slotSpace (s.slot i).state s.freeSpace))
    else if length = 0 ∨ Config.longestSequence < length.toNat then
      (s, answer .badValue (.slotSpace (s.slot i).state s.freeSpace))
    else if s.freeSpace < length.toNat then (s, answer .noSpace (.slotSpace (s.slot i).state s.freeSpace))
    else
      let t := s.updSlot i fun x => { x with state := .opened, declared := some length.toNat, steps := [] }
      (t, answer .ok (.slotSpace .opened t.freeSpace))

/-- OPEN_SEQ (R57). -/
def execOpenSeq (id length : Byte) (s : State) : Out := s.command (.openSeq id length) (openSeqEffect id length)

/-- Steps stored behind those of a slot, which becomes SEALED when it is full (R60). -/
def Slot.append (x : Slot) (steps : List Step) : Slot :=
  { x with steps := x.steps ++ steps, state := if (x.steps ++ steps).length = x.reserved then .sealed else .opened }

/-- APPEND_SEQ: its five checks in order (R59), then all its steps are stored (R60). -/
def appendSeqEffect (id offset : Byte) (raw : List RawStep) (s : State) : State × Answer :=
  match slotOfCode id with
  | none => (s, answer .noSequence (.slotFilled .free 0))
  | some i =>
    let x := s.slot i
    let refuse (code : ResultCode) : State × Answer := (s, answer code (.slotFilled x.state x.filled))
    match x.state with
    | .free => refuse .noSequence
    | .sealed => refuse .wrongState
    | .opened =>
      if offset.toNat ≠ x.filled then refuse .badOffset
      else if x.reserved < x.filled + raw.length then refuse .badValue
      else match stepsOfRaw raw with
        | none => refuse .badValue
        | some steps =>
          (s.updSlot i fun y => y.append steps, answer .ok (.slotFilled (x.append steps).state (x.append steps).filled))

/-- APPEND_SEQ (R59). -/
def execAppendSeq (id offset : Byte) (raw : List RawStep) (s : State) : Out :=
  s.command (.appendSeq id offset raw) (appendSeqEffect id offset raw)

/-- DELETE_SEQ: its two checks in order, then the slot is FREE; the reply carries the use count when taken and the free space
after (R62). -/
def deleteSeqEffect (id : Byte) (s : State) : State × Answer :=
  match slotOfCode id with
  | none => (s, answer .noSequence (.slotUse 0 s.freeSpace))
  | some i =>
    if (s.slot i).state = .free then (s, answer .noSequence (.slotUse 0 s.freeSpace))
    else if (s.slot i).useCount ≠ 0 then (s, answer .inUse (.slotUse (s.slot i).useCount s.freeSpace))
    else
      let t := s.updSlot i fun _ => Slot.reset
      (t, answer .ok (.slotUse 0 t.freeSpace))

/-- DELETE_SEQ (R62). -/
def execDeleteSeq (id : Byte) (s : State) : Out := s.command (.deleteSeq id) (deleteSeqEffect id)

end Sys2Proof.Machine
end

