-- ==== Sys2Proof/Machine/LineCommands.lean ====
section
/-! DEFINITION. CONFIG_LINE, SET_PAIR and CLEAR_PAIR: the commands that write the line table (section 1.6). -/

namespace Sys2Proof.Machine

/-- CONFIG_LINE: check 1 is the three codes, check 2 the owner (R14). -/
def configLineEffect (line polarity safeLevel : Byte) (s : State) : State × Answer :=
  match lineOfCode line, Polarity.ofCode polarity, SafeLevel.ofCode safeLevel with
  | some l, some p, some v =>
    if (s.line l).owner.isSome then (s, answer .wrongState .none)
    else (s.updLine l fun r => { r with polarity := p, safeLevel := v }, answer .ok .none)
  | _, _, _ => (s, answer .badValue .none)

/-- CONFIG_LINE (R14). -/
def execConfigLine (line polarity safeLevel : Byte) (s : State) : Out :=
  s.command (.configLine line polarity safeLevel) (configLineEffect line polarity safeLevel)

/-- Lines a and b become partners (R16). -/
def State.pairLines (s : State) (a b : LineNo) : State :=
  (s.updLine a fun r => { r with partner := some b }).updLine b fun r => { r with partner := some a }

/-- Lines a and b are no longer partners (R17). -/
def State.unpairLines (s : State) (a b : LineNo) : State :=
  (s.updLine a fun r => { r with partner := none }).updLine b fun r => { r with partner := none }

/-- SET_PAIR: its four checks in order, then the pair (R15, R16). Check 4 reads the rest sets whatever the lanes' states; it fails
when each line is in the rest set of the lane that owns it, be that one lane or two. -/
def setPairEffect (a b : Byte) (s : State) : State × Answer :=
  match lineOfCode a, lineOfCode b with
  | some x, some y =>
    if x = y then (s, answer .badValue .none)
    else if (s.partner x).isSome ∨ (s.partner y).isSome then (s, answer .lineTaken .none)
    else if s.ownerQuiet x = false ∨ s.ownerQuiet y = false then (s, answer .wrongState .none)
    else if s.inOwnRestSet x = true ∧ s.inOwnRestSet y = true then (s, answer .interlock .none)
    else (s.pairLines x y, answer .ok .none)
  | _, _ => (s, answer .badValue .none)

/-- SET_PAIR (R15). -/
def execSetPair (a b : Byte) (s : State) : Out := s.command (.setPair a b) (setPairEffect a b)

/-- CLEAR_PAIR: its two checks in order, then the pair is dissolved and the former partner returned (R17). -/
def clearPairEffect (a : Byte) (s : State) : State × Answer :=
  match lineOfCode a with
  | some x =>
    match s.partner x with
    | some y =>
      if s.ownerQuiet x = false ∨ s.ownerQuiet y = false then (s, answer .wrongState .none)
      else (s.unpairLines x y, answer .ok (.line y))
    | none => (s, answer .badValue .none)
  | none => (s, answer .badValue .none)

/-- CLEAR_PAIR (R17). -/
def execClearPair (a : Byte) (s : State) : Out := s.command (.clearPair a) (clearPairEffect a)

end Sys2Proof.Machine
end

