-- ==== Sys2Proof/Machine/LinkCommands.lean ====
section
/-! DEFINITION. IDENTIFY, PING, GET_STATUS, SET_LINK and REINIT: the commands that belong to the link and to the whole part
(chapters 9 and 10). -/

namespace Sys2Proof.Machine

/-- IDENTIFY returns the identity fields and changes nothing (R162). -/
def identifyEffect (s : State) : State × Answer := (s, answer .ok .identity)

/-- IDENTIFY (R162). -/
def execIdentify (s : State) : Out := s.command .identify identifyEffect

/-- PING changes no state (R163). -/
def pingEffect (s : State) : State × Answer := (s, answer .ok .none)

/-- PING (R163). -/
def execPing (s : State) : Out := s.command .ping pingEffect

/-- The base periods a PENDING line has waited, 0 for a line in any other state (R19). -/
def State.waited (s : State) (l : LineNo) : Nat :=
  match (s.line l).state with
  | .pending since => min (s.now - since) 255
  | _ => 0

/-- The current-entry fields of scope LANE: with a step in progress its elapsed ticks, in PAUSED 0; the break-pending mark of a STEP entry
is clear (R78, R164). -/
def State.currentView (s : State) (n : LaneNo) : Option CurrentView :=
  (s.lane n).current.map fun c =>
    { serial := c.entry.serial,
      isPlay := (match c.entry.body with
        | .step _ => false
        | .play _ _ => true),
      index := c.index, pass := c.pass, elapsed := s.elapsed n,
      breakPending := (match c.entry.body with
        | .step _ => false
        | .play _ _ => c.breakPending) }

/-- The contents of a scope, read at one instant (Table 10-4). -/
def State.contents (s : State) : Scope → Contents
  | .part => .part s.laneStates s.kill.asserted s.keepalive.latch s.tx.loss s.freeSpace s.freeSlots
  | .lane n => .lane n (s.lane n).config (s.lane n).state (s.lane n).queue.length (s.lane n).nextSerial (s.currentView n)
  | .lines => .lines ((List.finRange 24).map fun l => ⟨s.line l, s.waited l⟩)
  | .link _ => .link s.rx.counters s.settings s.keepalive.window
  | .seq i => .seq i (s.slot i).state (s.slot i).reserved (s.slot i).filled (s.slot i).useCount

/-- The clear flag of scope LINK sets the six counters to 0 in the same event, after reading them; no other scope changes any
state (R150, R164). -/
def State.clearedBy (s : State) : Scope → State
  | .link true => s.count fun _ => LinkCounters.zero
  | _ => s

/-- GET_STATUS reads its scope; a scope or slot id out of range gives BAD_VALUE without fields (R164). -/
def getStatusEffect (scope arg : Byte) (s : State) : State × Answer :=
  match Scope.ofCode scope arg with
  | some sc => (s.clearedBy sc, answer .ok (.status (s.contents sc)))
  | none => (s, answer .badValue .none)

/-- GET_STATUS (R164). -/
def execGetStatus (scope arg : Byte) (s : State) : Out := s.command (.getStatus scope arg) (getStatusEffect scope arg)

/-- An accepted SET_LINK sets the window and restarts the remaining time at it; the latch is left as it is (R153, R154). -/
def Keepalive.setWindow (k : Keepalive) (w : Nat) : Keepalive :=
  { k with window := w, remaining := w * Config.keepaliveUnit }

/-- SET_LINK: the window at once, the rate and parity as a pending change attached to its reply (R154). -/
def setLinkEffect (rate parity : Byte) (window : Half) (s : State) : State × Answer :=
  match Rate.ofCode rate, Parity.ofCode parity with
  | some r, some p =>
    if window.toNat ≤ Config.windowMax then
      ({ s with keepalive := s.keepalive.setWindow window.toNat }, ⟨.ok, .link ⟨r, p⟩ window.toNat, some ⟨r, p⟩⟩)
    else (s, answer .badValue (.link s.settings s.keepalive.window))
  | _, _ => (s, answer .badValue (.link s.settings s.keepalive.window))

/-- SET_LINK (R154). -/
def execSetLink (rate parity : Byte) (window : Half) (s : State) : Out :=
  s.command (.setLink rate parity window) (setLinkEffect rate parity window)

/-- The message is a reply. -/
def Message.isReply : Message → Bool
  | .reply _ _ _ => true
  | .report _ _ => false

/-- What REINIT leaves of the outbound queue: the message in transmission, and of those behind it the replies (R156). -/
def Transmitter.reinit (t : Transmitter) : Transmitter :=
  match t.sending, t.queue with
  | some _, m :: rest => { t with queue := m :: rest.filter Message.isReply, loss := 0 }
  | _, _ => { t with queue := t.queue.filter Message.isReply, loss := 0 }

/-- The acts of REINIT: lines, lanes, library and sync drive return to their reset values, waiting reports are removed and the counters
cleared; the link settings, receiver, inbound queue, keepalive timer and all filters are kept (R165, Table 9-4). What had been set off for
a lane would find it OFF and have no effect (R165, log entry 18). -/
def State.reinit (s : State) : State :=
  { s with lines := State.reset.lines, faultN := false, lanes := State.reset.lanes, slots := State.reset.slots,
           sync := s.sync.release s.now, tx := s.tx.reinit, rx := { s.rx with counters := LinkCounters.zero }, setOff := [] }

/-- REINIT. Reports of events before it are offered before it, so it removes them unless they have begun transmission (R156, R165). -/
def reinitEffect (s : State) : State × Answer := (s.offerAll.reinit, answer .ok .none)

/-- REINIT (R165). -/
def execReinit (s : State) : Out := s.command .reinit reinitEffect

end Sys2Proof.Machine
end

