-- ==== Sys2Proof/Machine/SafeHold.lean ====
section
/-! DEFINITION. ABORT and CLEAR_FAULT, and the safe-hold events of KILL_N and of the Keepalive Timer (chapter 8). -/

namespace Sys2Proof.Machine

/-- The named lanes that an ABORT puts into SAFE: those neither OFF nor SAFE, in ascending order (R139). -/
def State.abortTargets (s : State) (lanes : LaneSet) : List LaneNo :=
  (lanesOf lanes).filter fun n => (s.lane n).state != .off && (s.lane n).state != .safe

/-- The reports that t has sent beyond those of s go to the outbound queue in their order, whichever lanes sent them. -/
def State.joinReports (s t : State) : State :=
  match (t.setOff.drop s.setOff.length).flatMap SetOff.carried with
  | [] => { t with setOff := s.setOff }
  | r :: rs => { t with setOff := s.setOff ++ [.reports (r :: rs)] }

/-- ABORT: an empty lane set gives BAD_VALUE; otherwise each target enters SAFE, and their reports go out in ascending lane order (R139,
R173). -/
def abortEffect (lanes : LaneSet) (s : State) : State × Answer :=
  if lanes = 0 then (s, answer .badValue (.aborted 0 s.laneStates))
  else
    let t := s.joinReports ((s.abortTargets lanes).foldl (fun t n => t.enterSafe n .abort) s)
    (t, answer .ok (.aborted (laneSetOfList (s.abortTargets lanes)) t.laneStates))

/-- ABORT (R139). -/
def execAbort (lanes : LaneSet) (s : State) : Out := s.command (.abort lanes) (abortEffect lanes)

/-- The acts of an accepted CLEAR_FAULT: lines to INACTIVE, IDLE with FAULT_N following, rest set (R140). -/
def State.clearSafe (s : State) (n : LaneNo) : State :=
  let s := (s.clearLines n).setLaneState n .idle
  State.applyRest { s with faultN := s.someSafe } n

/-- CLEAR_FAULT: its two checks in order (R140). -/
def clearFaultEffect (n : LaneNo) (s : State) : State × Answer :=
  if (s.lane n).state ≠ .safe then (s, answer .wrongState (.laneState (s.lane n).state))
  else if s.kill.asserted = true then (s, answer .killActive (.laneState (s.lane n).state))
  else (s.clearSafe n, answer .ok (.laneState .idle))

/-- CLEAR_FAULT (R140). -/
def execClearFault (n : LaneNo) (s : State) : Out := s.command (.clearFault n) (clearFaultEffect n)

/-- KILL_ASSERTION: the filtered level of KILL_N becomes asserted. After start-up the notice is sent and the assertion goes to every lane
that owns lines and is not in SAFE; before it no notice is sent and every lane is OFF (R135, R136). Not an event while the level is already
asserted, before the filter has adopted a level or the pin can have been low for 1 µs, or in pin reset. -/
def execKillAssertion (s : State) : Out :=
  if s.isHeld = true ∨ s.kill.adopted = false ∨ s.killSteady = false ∨ s.kill.asserted = true then .next s
  else
    let t := { s with kill := { s.kill with asserted := true, since := s.now } }
    .next (if t.phase = .started then t.holdLanes .killAsserted .kill else t)

/-- KILL_RELEASE: the filtered level becomes deasserted; after start-up the notice is sent. No lane changes (R135, R137). -/
def execKillRelease (s : State) : Out :=
  if s.isHeld = true ∨ s.kill.adopted = false ∨ s.killSteady = false ∨ s.kill.asserted = false then .next s
  else
    let t := { s with kill := { s.kill with asserted := false, since := s.now } }
    .next (if t.phase = .started then t.report (.notice .killReleased) else t)

/-- KEEPALIVE_EXPIRY, due when the timer runs and its remaining time is 0: the latch is set, the notice is sent and the expiry goes to every
lane that owns lines and is not in SAFE (R138, R153). -/
def execKeepaliveExpiry (s : State) : Out :=
  if s.keepalive.running = true ∧ s.keepalive.remaining = 0 then
    let t := { s with keepalive := { s.keepalive with latch := true } }
    .next (t.holdLanes .keepaliveExpired .keepalive)
  else .next s

end Sys2Proof.Machine
end

