-- ==== Sys2Proof/Machine/Dispatch.lean ====
section
/-! DEFINITION. One arm for every row of the opcode table. -/

namespace Sys2Proof.Machine

def exec (i : Instr) (s : State) : Host.Outcome State Fault Refusal :=
  match i with
  | .identify => Sys2Proof.Machine.execIdentify s
  | .ping => Sys2Proof.Machine.execPing s
  | .getStatus scope argument => Sys2Proof.Machine.execGetStatus scope argument s
  | .setLink rate parity window => Sys2Proof.Machine.execSetLink rate parity window s
  | .reinit => Sys2Proof.Machine.execReinit s
  | .configLine line polarity safeLevel => Sys2Proof.Machine.execConfigLine line polarity safeLevel s
  | .setPair a b => Sys2Proof.Machine.execSetPair a b s
  | .clearPair a => Sys2Proof.Machine.execClearPair a s
  | .configLane lane config => Sys2Proof.Machine.execConfigLane lane config s
  | .enqueue lane entries => Sys2Proof.Machine.execEnqueue lane entries s
  | .start lanes mode => Sys2Proof.Machine.execStart lanes mode s
  | .openSeq id length => Sys2Proof.Machine.execOpenSeq id length s
  | .appendSeq id offset steps => Sys2Proof.Machine.execAppendSeq id offset steps s
  | .deleteSeq id => Sys2Proof.Machine.execDeleteSeq id s
  | .pulseSync => Sys2Proof.Machine.execPulseSync s
  | .pause lane => Sys2Proof.Machine.execPause lane s
  | .resume lane => Sys2Proof.Machine.execResume lane s
  | .stop lane mode => Sys2Proof.Machine.execStop lane mode s
  | .breakPass lane => Sys2Proof.Machine.execBreak lane s
  | .amend lane serial duration => Sys2Proof.Machine.execAmend lane serial duration s
  | .flush lane => Sys2Proof.Machine.execFlush lane s
  | .abort lanes => Sys2Proof.Machine.execAbort lanes s
  | .clearFault lane => Sys2Proof.Machine.execClearFault lane s
  | .pinReset => Sys2Proof.Machine.execPinReset s
  | .resetRelease straps => Sys2Proof.Machine.execResetRelease straps s
  | .startUpEvent => Sys2Proof.Machine.execStartUpEvent s
  | .characterReceived c => Sys2Proof.Machine.execCharacterReceived c s
  | .gapExpiry => Sys2Proof.Machine.execGapExpiry s
  | .validFrame f => Sys2Proof.Machine.execValidFrame f s
  | .frameTake => Sys2Proof.Machine.execFrameTake s
  | .commandCompletion => Sys2Proof.Machine.execCommandCompletion s
  | .transmissionEnd => Sys2Proof.Machine.execTransmissionEnd s
  | .keepaliveExpiry => Sys2Proof.Machine.execKeepaliveExpiry s
  | .killAssertion => Sys2Proof.Machine.execKillAssertion s
  | .killRelease => Sys2Proof.Machine.execKillRelease s
  | .triggerEdge input edge => Sys2Proof.Machine.execTriggerEdge input edge s
  | .syncEdge => Sys2Proof.Machine.execSyncEdge s
  | .syncPulseExpiry => Sys2Proof.Machine.execSyncPulseExpiry s
  | .stepEndTimer lane => Sys2Proof.Machine.execStepEndTimer lane s
  | .blankingEnd lane => Sys2Proof.Machine.execBlankingEnd lane s
  | .stepTimeout lane => Sys2Proof.Machine.execStepTimeout lane s
  | .guardExpiry line => Sys2Proof.Machine.execGuardExpiry line s
  | .startBitRecognized => Sys2Proof.Machine.execStartBitRecognized s
  | .syncLowToHigh => Sys2Proof.Machine.execSyncLowToHigh s
  | .filterLevelAdopted input level => Sys2Proof.Machine.execFilterLevelAdopted input level s

end Sys2Proof.Machine
end

