-- ==== Sys2Proof/Machine/Step.lean ====
section
/-! DEFINITION. One step of the SQ424: the command or event at the front of the queue, else one that has been set off or has fallen due,
else one base period of time. -/

namespace Sys2Proof.Machine

/-- One step. The queue is first in, first out; on an empty queue the part takes an event that has been set off or has fallen due, and when
there is none, a base period passes (log entries 2 and 8). -/
def step (s : State) : Host.Outcome State Fault Refusal :=
  match s.pending with
  | c :: rest => exec c { s with pending := rest }
  | [] =>
    match s.nextHappening with
    | some (.row c, t) => exec c t
    | some (.setOff e standing, t) => .next (State.take { t with setOff := standing } e)
    | none => .next s.tick

/-- The state with the command that a table word spells at the front of its queue; the table gives no row bits, so no word spells one. -/
def State.withFetchWord (s : State) (nbits w : Nat) : State :=
  match decodeTableWord nbits w with
  | some c => { s with pending := c :: s.pending }
  | none => s

end Sys2Proof.Machine
end

