-- ==== Sys2Proof/Safety.lean ====
section
/-! DEFINITION. What holds in every state the SQ424 reaches: the invariants the manual states, as predicates of the state. -/

namespace Sys2Proof.Safety

open Sys2Proof.Machine

/-! ### The line table (chapter 1) -/

/-- Each line belongs to at most one pair, and the two lines of a pair name each other (R16). -/
def PartnersAgree (s : State) : Prop :=
  ∀ l p : LineNo, s.partner l = some p → p ≠ l ∧ s.partner p = some l

/-- The two lines of an interlock pair are never both ACTIVE (R8). -/
def PairsApart (s : State) : Prop :=
  ∀ l p : LineNo, s.partner l = some p → (s.line l).state = .active → (s.line p).state ≠ .active

/-- The line is PENDING or ACTIVE: it is commanded active. -/
def LineState.commanded : LineState → Bool
  | .pending _ => true
  | .active => true
  | .float => false
  | .inactive => false

/-- A line with no owner is FLOAT (R2). -/
def UnownedFloat (s : State) : Prop := ∀ l : LineNo, (s.line l).owner = none → (s.line l).state = .float

/-- An interlock block stands for lane n: it has been sent, and the lane has still to take it (R10). -/
def blockStands (s : State) (n : LaneNo) : Prop := ∃ a p : LineNo, SetOff.safe n (.interlock a p) ∈ s.setOff

/-- What the state of the owner says of a line: an OFF lane owns none (R31); in IDLE and ARMED the rest-set lines, and no others, are PENDING or
ACTIVE (R30, R32, R71), save that one may have been withheld while its interlock block stands (R10); and in SAFE every line stands at its safe
level (R129). -/
def LinesAtRest (s : State) : Prop :=
  ∀ (l : LineNo) (n : LaneNo), (s.line l).owner = some n →
    (s.lane n).state ≠ .off
    ∧ ((s.lane n).state = .idle ∨ (s.lane n).state = .armed →
        (LineState.commanded (s.line l).state = true → lineIn (s.lane n).config.restSet l = true)
        ∧ (lineIn (s.lane n).config.restSet l = true → LineState.commanded (s.line l).state = true ∨ blockStands s n))
    ∧ ((s.lane n).state = .safe → (s.line l).state = (s.line l).safeLevel.state)

/-- The line table is sound: pairs agree, no pair is ACTIVE on both sides, and every line stands as its owner's state says. -/
def LinesSound (s : State) : Prop := PartnersAgree s ∧ PairsApart s ∧ UnownedFloat s ∧ LinesAtRest s

/-! ### The configuration records (chapter 2) -/

/-- The owner field of a line names the one lane whose line set holds the line (R29). -/
def OwnersAgree (s : State) : Prop :=
  ∀ (l : LineNo) (n : LaneNo), (s.line l).owner = some n ↔ lineIn (s.lane n).config.lines l = true

/-- The leader relation has a depth of one: a leader is another lane, and has no leader (R27). -/
def LeaderDepthOne (s : State) : Prop :=
  ∀ n m : LaneNo, (s.lane n).config.leader = some m → m ≠ n ∧ (s.lane m).config.leader = none

/-- A rest set lies within the lane's lines and holds no interlock pair (R30, Table 2-1). -/
def RestSetsSound (s : State) : Prop :=
  ∀ n : LaneNo, lineSubset (s.lane n).config.restSet (s.lane n).config.lines = true
    ∧ holdsPair s.partner (s.lane n).config.restSet = false

/-- The numbers of a record are in the ranges of Table 2-1. -/
def RecordsInRange (s : State) : Prop :=
  ∀ n : LaneNo, (s.lane n).config.tickExp ≤ 10 ∧ (s.lane n).config.guard ≤ 255
    ∧ 1 ≤ (s.lane n).config.blanking ∧ (s.lane n).config.blanking ≤ 255

/-- The configuration records are sound. -/
def ConfigSound (s : State) : Prop :=
  PartnersAgree s ∧ OwnersAgree s ∧ LeaderDepthOne s ∧ RestSetsSound s ∧ RecordsInRange s

/-! ### Safe hold (chapter 8) -/

/-- A lane in SAFE has an empty queue, no current entry and no step in progress (R129). -/
def SafeLanesEmpty (s : State) : Prop :=
  ∀ n : LaneNo, (s.lane n).state = .safe → (s.lane n).queue = [] ∧ (s.lane n).current = none ∧ (s.lane n).run = none

/-- A lane in OFF owns no lines (R31). -/
def OffLanesBare (s : State) : Prop := ∀ n : LaneNo, (s.lane n).state = .off → (s.lane n).config.lines = 0

/-- While KILL_N is asserted, every lane that owns lines is in SAFE, or the assertion is on its way to it (R136). -/
def KillHolds (s : State) : Prop :=
  s.kill.asserted = true → ∀ n : LaneNo, (s.lane n).config.lines ≠ 0 → (s.lane n).state = .safe ∨ SetOff.safe n .kill ∈ s.setOff

/-- FAULT_N is asserted exactly while at least one lane is in SAFE (R18). -/
def FaultShown (s : State) : Prop := s.faultN = s.someSafe

/-- Before the start-up event no frame has been taken, and no lane owns lines (R135, R157, R166). -/
def BareUntilStarted (s : State) : Prop :=
  s.phase ≠ .started → s.proc = .idle ∧ ∀ n : LaneNo, (s.lane n).config.lines = 0

/-- Safe hold is sound. -/
def SafeHoldSound (s : State) : Prop :=
  SafeLanesEmpty s ∧ OffLanesBare s ∧ KillHolds s ∧ FaultShown s ∧ BareUntilStarted s

/-! ### The link (chapters 9 and 10) -/

/-- The six counters stay within 16 bits (R150). -/
def CountersInRange (s : State) : Prop :=
  s.rx.counters.framing ≤ 65535 ∧ s.rx.counters.parity ≤ 65535 ∧ s.rx.counters.crc ≤ 65535
    ∧ s.rx.counters.length ≤ 65535 ∧ s.rx.counters.gap ≤ 65535 ∧ s.rx.counters.dropped ≤ 65535

/-- The queues of the link keep their capacities (R149, R151, R158), a message is in transmission exactly while the outbound queue is not empty
(R151), the counters keep their ranges (R150, R152), and the keepalive window its own (R153). -/
def LinkSound (s : State) : Prop :=
  s.rx.inbound.length ≤ 4 ∧ s.held ≤ 8 ∧ (s.tx.sending.isSome = true ↔ s.tx.queue ≠ []) ∧ s.tx.loss ≤ 255
    ∧ CountersInRange s ∧ s.keepalive.window ≤ 6000 ∧ s.keepalive.remaining ≤ s.keepalive.window * 100000

/-! ### The sequence library and the entries that name its slots (chapters 3 and 4) -/

/-- A slot in each of its three states (R56, Table 4-1). -/
def SlotSound (x : Slot) : Prop :=
  match x.state with
  | .free => x.declared = none ∧ x.steps = [] ∧ x.useCount = 0
  | .opened => x.steps.length < x.reserved ∧ x.reserved ≤ 64 ∧ x.useCount = 0
  | .sealed => x.steps.length = x.reserved ∧ 1 ≤ x.reserved ∧ x.reserved ≤ 64

/-- The entry is a PLAY entry that names slot i. -/
def EntryBody.names (i : SlotNo) : EntryBody → Bool
  | .step _ => false
  | .play j _ => j == i

/-- The PLAY entries, queued and current, of one lane that name slot i. -/
def uses (i : SlotNo) (r : LaneRec) : Nat :=
  r.queue.countP (fun e => EntryBody.names i e.body) + (match r.current with
    | some c => if EntryBody.names i c.entry.body then 1 else 0
    | none => 0)

/-- A slot's use count is the number of queued and current PLAY entries, over all lanes, that name it (R64). -/
def UseCountsAgree (s : State) : Prop :=
  ∀ i : SlotNo, (s.slot i).useCount = ((List.finRange 4).map fun n => uses i (s.lane n)).sum

/-- A slot with a use count above 0 is SEALED (R64). -/
def UsedSlotsSealed (s : State) : Prop := ∀ i : SlotNo, 0 < (s.slot i).useCount → (s.slot i).state = .sealed

/-- In OFF, IDLE, ARMED, STARVED and SAFE a lane has no current entry (Table 5-1). -/
def LaneState.idleHanded : LaneState → Bool
  | .off | .idle | .armed | .starved | .safe => true
  | .running | .pausing | .paused | .stopping => false

/-- In OFF, IDLE, ARMED, STARVED and SAFE a lane has no current entry (Table 5-1). -/
def CurrentOnlyInPlay (s : State) : Prop :=
  ∀ n : LaneNo, LaneState.idleHanded (s.lane n).state = true → (s.lane n).current = none

/-- The library is sound: its slots, its 512 steps (R55), and the counts of the entries that name its slots. -/
def LibrarySound (s : State) : Prop :=
  (∀ i : SlotNo, SlotSound (s.slot i)) ∧ s.reservedSteps ≤ 512 ∧ UseCountsAgree s ∧ UsedSlotsSealed s ∧ CurrentOnlyInPlay s

/-! ### The lanes in play (chapters 3 and 5) -/

/-- The lane states with a step in progress (Table 5-1). -/
def LaneState.inStep : LaneState → Bool
  | .running | .pausing | .stopping => true
  | .off | .idle | .armed | .starved | .paused | .safe => false

/-- One lane in each of its nine states: current entry, queue and step in progress as Table 5-1 gives. -/
def LaneRec.shaped (r : LaneRec) : Prop :=
  (r.run.isSome = true ↔ LaneState.inStep r.state = true)
    ∧ (LaneState.inStep r.state = true → r.current.isSome = true)
    ∧ (r.state = .off ∨ r.state = .starved ∨ r.state = .stopping ∨ r.state = .safe → r.queue = [])
    ∧ (r.state = .armed → r.queue ≠ [])

/-- The serials of the queued entries are consecutive, and the last is one less than the next serial (R41). -/
def serialsRun (next : Half) : List Entry → Prop
  | [] => True
  | e :: es => e.serial = next - BitVec.ofNat 16 (es.length + 1) ∧ serialsRun next es

/-- The cursor of a current PLAY entry stands within its slot, and a current STEP entry stands at index 0, pass 1 (R63, R78, R84). -/
def CursorWithin (s : State) (n : LaneNo) : Prop :=
  match (s.lane n).current with
  | none => True
  | some c =>
    match c.entry.body with
    | .step _ => c.index = 0 ∧ c.pass = 1
    | .play i _ => c.index < (s.slot i).steps.length ∧ 1 ≤ c.pass

/-- The lanes are sound: their states, their queues of at most 16 entries with consecutive serials, and their cursors. -/
def LanesSound (s : State) : Prop :=
  ∀ n : LaneNo, LaneRec.shaped (s.lane n) ∧ (s.lane n).queue.length ≤ 16
    ∧ serialsRun (s.lane n).nextSerial (s.lane n).queue ∧ CursorWithin s n

/-- The library and the lanes in play, which hold each other up: a step begins because its slot still holds it, and a slot is kept because an
entry names it. -/
def PlaySound (s : State) : Prop := LibrarySound s ∧ LanesSound s

/-- The step is one that lane n may play: its active set lies within the lane's lines and holds no interlock pair (checks 1 and 2 of R44). -/
def StepLawful (s : State) (n : LaneNo) (st : Step) : Prop :=
  lineSubset st.active (s.lane n).config.lines = true ∧ holdsPair s.partner st.active = false

/-- Every step that the entry plays is one that lane n may play: its own, or each that its slot stores (R44). -/
def BodyLawful (s : State) (n : LaneNo) : EntryBody → Prop
  | .step st => StepLawful s n st
  | .play i _ => ∀ st ∈ (s.slot i).steps, StepLawful s n st

/-- What ENQUEUE checked still holds while it matters: of every queued entry, of the current entry, and of the step in progress (R44). -/
def StepsLawful (s : State) : Prop :=
  ∀ n : LaneNo, (∀ e ∈ (s.lane n).queue, BodyLawful s n e.body)
    ∧ (∀ c, (s.lane n).current = some c → BodyLawful s n c.entry.body)
    ∧ (∀ r, (s.lane n).run = some r → StepLawful s n r.step)

/-- No time of the state lies ahead of now: lines PENDING, steps in progress, a message in transmission, the release of RST_N, the last change at
each filter, the sync release and a framing error all came at or before it (R6, R77, R94, R124, R135, R143, R151, R166). -/
def TimesPast (s : State) : Prop :=
  (∀ (l : LineNo) (t : Nat), (s.line l).state = .pending t → t ≤ s.now)
    ∧ (∀ (n : LaneNo) (r : StepRun), (s.lane n).run = some r → r.startedAt ≤ s.now)
    ∧ (∀ x : Transmission, s.tx.sending = some x → x.startedAt ≤ s.now)
    ∧ (∀ t : Nat, s.phase = .starting t → t ≤ s.now)
    ∧ (∀ i : TrigNo, (s.trigger i).since ≤ s.now)
    ∧ s.sync.since ≤ s.now ∧ s.sync.releasedAt ≤ s.now ∧ s.kill.since ≤ s.now
    ∧ ∀ t : Nat, s.rx.quietFrom = some t → t ≤ s.now

end Sys2Proof.Safety
end

