-- ==== Sys2Proof/Certificates/Slice0/Obligations.lean ====
section
/-! DEFINITION. The statements for the provers. First the words they are written in; then, in the order of the manual's chapters, what
each command and event of the SQ424 does, the encoding, and the invariants that every step keeps. -/

namespace Sys2Proof.Spec

open Sys2Proof.Machine Sys2Proof.Safety

/-! ### The words of the statements -/

/-- The Command Processor is executing a frame that the general checks read as command c, and the event of the command has not
been taken (R159, R160). -/
def Awaited (s : State) (x : Execution) (c : Instr) : Prop :=
  s.proc = .executing x ∧ x.answer = none ∧ decodeFrame x.frame = .ok c

/-- The state with the event's answer kept for the reply, and nothing else changed (R159, R161). -/
def answered (s : State) (x : Execution) (a : Answer) : State :=
  { s with proc := .executing { x with answer := some a } }

/-- Reports offered one after the other (R152, R173). -/
def offered (s : State) (rs : List Report) : State := rs.foldl State.offer s

/-- The reports in flight to the outbound queue, in the order in which they stand. -/
def inFlight (s : State) : List Report := s.setOff.flatMap SetOff.carried

/-- Reports sent one after the other, each on its way to the outbound queue (R152, R173, log entry 8). -/
def sent (rs : List Report) : List SetOff := rs.map fun r => .reports [r]

/-- The boundary event of lane n on its way to each lane that names n as its leader (R89, R99). -/
def toFollowers (s : State) (n : LaneNo) : List SetOff :=
  ((List.finRange 4).filter fun m => (s.lane m).config.leader == some n).map .leaderBoundary

/-- A STEP_END under the report policy of a lane: sent under STEPS alone (R169). -/
def stepReports (p : Policy) (r : Report) : List Report := if p = .steps then [r] else []

/-- An ENTRY_END under the report policy of a lane: sent under ENTRIES and STEPS (R169). -/
def entryReports (p : Policy) (r : Report) : List Report := if p = .none then [] else [r]

/-- Nothing differs but lane n, lines that lane n owns, the library's use counts, FAULT_N and what is in flight. -/
def OnlyLane (n : LaneNo) (s t : State) : Prop :=
  t = { s with lanes := t.lanes, lines := t.lines, slots := t.slots, faultN := t.faultN, setOff := t.setOff }
    ∧ (∀ m : LaneNo, m ≠ n → t.lane m = s.lane m)
    ∧ (∀ l : LineNo, (s.line l).owner ≠ some n → t.line l = s.line l)
    ∧ (∀ i : SlotNo, t.slot i = { s.slot i with useCount := (t.slot i).useCount })

/-- Every slot is as it was. -/
def SlotsKept (s t : State) : Prop := ∀ i : SlotNo, t.slot i = s.slot i

/-- Every line is as it was. -/
def LinesKept (s t : State) : Prop := ∀ l : LineNo, t.line l = s.line l

/-- Table 1-4, one line that a pattern application reaches: named or not, now. -/
def patterned (now : Nat) (named : Bool) : LineState → LineState
  | .float => if named then .pending now else .inactive
  | .inactive => if named then .pending now else .inactive
  | .pending since => if named then .pending since else .inactive
  | .active => if named then .active else .inactive

/-- Every line of lane n is treated by Table 1-4 for this pattern (R5). -/
def Applied (n : LaneNo) (pattern : LineSet) (s t : State) : Prop :=
  ∀ l : LineNo, (s.line l).owner = some n →
    t.line l = { s.line l with state := patterned s.now (lineIn pattern l) (s.line l).state }

/-- Every line of lane n stands at its safe level (R12). -/
def AtSafeLevels (n : LaneNo) (s t : State) : Prop :=
  ∀ l : LineNo, (s.line l).owner = some n →
    t.line l = { s.line l with state := match (s.line l).safeLevel with
                                        | .inactive => .inactive
                                        | .float => .float }

/-- Lane n plays the step st, begun now, as the step at cursor c (R77, R88). -/
def begun (r : LaneRec) (c : Current) (st : Step) (now : Nat) : LaneRec :=
  { r with state := .running, current := some c, run := some ⟨st, now, false, false⟩ }

/-- Lane n in SAFE (R129). -/
def held (r : LaneRec) : LaneRec := { r with state := .safe, queue := [], current := none, run := none }

/-- The passes completed of an entry that is cut or stopped before its present pass ends (R115, R116, R132). -/
def passesDone (c : Current) : Nat :=
  match c.entry.body with
  | .step _ => 0
  | .play _ _ => c.pass - 1

/-- The reports of lane n's step and entry, when both are cut (R116, R131, R132). -/
def cutReports (s : State) (n : LaneNo) : List Report :=
  let r := s.lane n
  (match r.run, r.current with
    | some _, some k => stepReports r.config.policy (.stepEnd n k.entry.serial k.index k.pass .cut (s.elapsed n))
    | _, _ => [])
  ++ (match r.current with
    | some k => entryReports r.config.policy (.entryEnd n k.entry.serial .cut (passesDone k))
    | none => [])

/-- The reports of lane n's entry to SAFE for a cause, in the order of the stages (R131). -/
def safeReports (s : State) (n : LaneNo) (c : SafeCause) : List Report :=
  cutReports s n ++ (match c with
    | .abort => []
    | .kill => [.laneState n .safe .kill]
    | .keepalive => [.laneState n .safe .keepalive]
    | .interlock a p => [.laneState n .safe (.interlock a p)]
    | .timeout serial index => [.laneState n .safe (.timeout serial index)])

/-- Each slot's use count has fallen by a number of its own, and nothing else of a slot has changed (R65, R66). -/
def Released (by' : SlotNo → Nat) (s t : State) : Prop :=
  ∀ i : SlotNo, t.slot i = { s.slot i with useCount := (s.slot i).useCount - by' i }

/-- The queued PLAY entries of a lane that name slot i. -/
def queuedUses (r : LaneRec) (i : SlotNo) : Nat := r.queue.countP fun e => EntryBody.names i e.body

/-- The lanes that a kill assertion or a keepalive expiry reaches: those that own lines and are not in SAFE (R136, R138). -/
def reached (s : State) : List LaneNo :=
  (List.finRange 4).filter fun n => (s.lane n).config.lines != 0 && (s.lane n).state != .safe

/-- The lanes of a list have entered SAFE, and no other lane, line or slot has changed (R129, R131). -/
def InSafe (ns : List LaneNo) (s t : State) : Prop :=
  (∀ n, t.lane n = if n ∈ ns then held (s.lane n) else s.lane n)
    ∧ (∀ n ∈ ns, AtSafeLevels n s t)
    ∧ (∀ l, (∀ n ∈ ns, (s.line l).owner ≠ some n) → t.line l = s.line l)
    ∧ Released (fun i => (ns.map fun n => uses i (s.lane n)).sum) s t
    ∧ t.faultN = (s.faultN || !ns.isEmpty)

/-- Lane n has entered SAFE for a cause: its stages in their order, with their reports in flight, and nothing else (R131). -/
def EntersSafe (n : LaneNo) (c : SafeCause) (s t : State) : Prop :=
  OnlyLane n s t ∧ InSafe [n] s t ∧ t.setOff = s.setOff ++ sent (safeReports s n c)

/-- Lane n begins the step st at cursor c, out of the record r: RUNNING, its step begun now, its lines treated by the active set;
behind the reports so far its boundary event goes to its followers, and nothing else has changed (R88, R89). -/
def Begins (n : LaneNo) (r : LaneRec) (c : Current) (st : Step) (before : List Report) (s t : State) : Prop :=
  t.lane n = begun r c st s.now ∧ Applied n st.active s t ∧ OnlyLane n s t ∧ t.faultN = s.faultN
    ∧ t.setOff = s.setOff ++ sent before ++ toFollowers s n

/-- Lane n's record is r, its lines are as they were, these reports are sent, and nothing outside the lane has changed but slots. -/
def Holds (n : LaneNo) (r : LaneRec) (reports : List Report) (s t : State) : Prop :=
  t.lane n = r ∧ LinesKept s t ∧ OnlyLane n s t ∧ t.faultN = s.faultN ∧ t.setOff = s.setOff ++ sent reports

/-- Lane n's record is r, its rest set is applied, these reports are sent, and nothing outside the lane has changed but slots (R92). -/
def Rests (n : LaneNo) (r : LaneRec) (reports : List Report) (s t : State) : Prop :=
  t.lane n = r ∧ Applied n r.config.restSet s t ∧ OnlyLane n s t ∧ t.faultN = s.faultN
    ∧ t.setOff = s.setOff ++ sent reports

/-- Stages 6 and 7 of a lane in RUNNING whose current entry is over, out of the record r; `before` are the reports so far. As the
direct result of a command (`quiet`) a change of state sends no LANE_STATE (R87, R88, R90). -/
def Goes (n : LaneNo) (r : LaneRec) (before : List Report) (quiet : Bool) (s t : State) : Prop :=
  (∀ e rest st, r.queue = e :: rest → s.stepAt ⟨e, 0, 1, false⟩ = some st →
    Begins n { r with queue := rest } ⟨e, 0, 1, false⟩ st before s t)
  ∧ (r.queue = [] → r.config.endAction = .hold →
    Holds n { r with state := .starved } (before ++ if quiet then [] else [.laneState n .starved .starved]) s t)
  ∧ (r.queue = [] → r.config.endAction = .rest →
    Rests n { r with state := .idle } (before ++ if quiet then [] else [.laneState n .idle .completed]) s t)

/-- A boundary of lane n at which its current entry c ends with an outcome and a number of passes: the stages from the cursor
advance on, for a lane STOPPING, PAUSING and RUNNING; `before` is the step's report (R83 to R88). -/
def EntryEnds (n : LaneNo) (c : Current) (o : EntryOutcome) (passes : Nat) (before : List Report) (quiet : Bool) (s t : State) : Prop :=
  let r := { s.lane n with current := none, run := none }
  let reports := before ++ entryReports r.config.policy (.entryEnd n c.entry.serial o passes)
  Released (fun i => if EntryBody.names i c.entry.body then 1 else 0) s t
  ∧ (r.state = .stopping →
    Rests n { r with state := .idle } (reports ++ if quiet then [] else [.laneState n .idle .stopped]) s t)
  ∧ (r.state = .pausing →
    Holds n { r with state := .paused } (reports ++ if quiet then [] else [.laneState n .paused .paused]) s t)
  ∧ (r.state = .running → Goes n r reports quiet s t)

/-- A boundary of lane n at which its current entry c goes on at cursor c' (R83, R84, R86, R88). A lane STOPPING ends it there,
STOPPED, with the passes that are behind c' (Table 5-4). -/
def EntryGoesOn (n : LaneNo) (c c' : Current) (before : List Report) (quiet : Bool) (s t : State) : Prop :=
  let r := { s.lane n with run := none }
  (r.state = .stopping →
    Rests n { r with state := .idle, current := none }
      (before ++ entryReports r.config.policy (.entryEnd n c.entry.serial .stopped (c'.pass - 1))
        ++ if quiet then [] else [.laneState n .idle .stopped]) s t
    ∧ Released (fun i => if EntryBody.names i c.entry.body then 1 else 0) s t)
  ∧ (r.state = .pausing →
    Holds n { r with state := .paused, current := some c' } (before ++ if quiet then [] else [.laneState n .paused .paused]) s t
    ∧ SlotsKept s t)
  ∧ (r.state = .running → ∀ st, s.stepAt c' = some st → Begins n r c' st before s t ∧ SlotsKept s t)

/-- The step boundary procedure of lane n, for a step of the current entry c that ends with an outcome and its ticks: stage 1,
then what stage 4 makes of the entry (R80 to R88). Stage 2 is not among it. -/
def BoundaryTaken (n : LaneNo) (c : Current) (o : StepOutcome) (ticks : Nat) (quiet : Bool) (s t : State) : Prop :=
  let before := stepReports (s.lane n).config.policy (.stepEnd n c.entry.serial c.index c.pass o ticks)
  match c.entry.body with
  | .step _ => EntryEnds n c .done 1 before quiet s t
  | .play i repeats =>
    (c.index + 1 < (s.slot i).steps.length → EntryGoesOn n c { c with index := c.index + 1 } before quiet s t)
    ∧ ((s.slot i).steps.length ≤ c.index + 1 →
      (c.breakPending = true → EntryEnds n c .broken c.pass before quiet s t)
      ∧ (c.breakPending = false → repeats ≠ 0 → c.pass = repeats → EntryEnds n c .done c.pass before quiet s t)
      ∧ (c.breakPending = false → repeats = 0 ∨ c.pass ≠ repeats →
        EntryGoesOn n c ⟨c.entry, 0, c.pass + 1, false⟩ before quiet s t))

/-- A step of a frame, and the step that its bytes give when it is intrinsically valid (R38, R175). -/
def Gives (r : RawStep) (st : Step) : Prop :=
  r.duration ≠ 0 ∧ r.advance = (match st.advance with
      | .time => 0
      | .edge => 1
      | .follow => 2)
    ∧ st.active = r.active ∧ st.duration = r.duration.toNat

/-- `chars` characters after one bit time, at the settings in force, have passed since the framing error, if the receiver still waits
after one (R143, log entry 5). -/
def QuietFor (s : State) (chars : Nat) : Prop :=
  ∀ t, s.rx.quietFrom = some t →
    (1 + chars * (if s.settings.parity = .none then 10 else 11)) * 10000000 ≤ (s.now - t) * s.settings.rate.bps

/-- The levels of TXD during one character: start low, data least significant bit first, parity, stop high (R142). -/
def levels (p : Parity) (b : Byte) : List Bool :=
  let odd : Bool := (List.range 8).countP b.getLsbD % 2 = 1
  [false] ++ (List.range 8).map b.getLsbD ++ (match p with
    | .none => []
    | .even => [odd]
    | .odd => [!odd]) ++ [true]

end Sys2Proof.Spec

open Sys2Proof Sys2Proof.Machine Sys2Proof.Safety Sys2Proof.Spec

/-! ### The queue of commands and events, and time -/

/-- One step takes the command at the front of the queue and runs its effect on the queue's rest. -/
def Obligations.StepRunsTheFrontCommand : Prop :=
  ∀ (c : Instr) (rest : List Instr) (s : State),
    step { s with pending := c :: rest } = exec c { s with pending := rest }

/-- The model's choice (log entries 2, 3 and 8): on an empty queue one event is taken of those that have fallen due and of those in flight
whose turn it is, in an order that a free choice settles, and each of them can be the one. When there is none, one base period passes, in
which the keepalive time and the sync pulse run down and the gap count runs up. -/
def Obligations.EmptyQueueLetsTimePass : Prop :=
  ∀ s : State, s.pending = [] →
    (s.setOff ≠ [] ∨ s.dueEvents ≠ [] → ∃ u, (u = s ∨ u = s.draw.2) ∧
      ((∃ c ∈ s.dueEvents, step s = exec c u)
        ∨ ∃ x ∈ takeable [] s.setOff, step s = .next (State.take { u with setOff := x.2 } x.1)))
    ∧ (∀ c ∈ s.dueEvents, ∃ k u, (u = s ∨ u = { s with choices := k :: s.choices })
      ∧ step { s with choices := k :: s.choices } = exec c u)
    ∧ (∀ x ∈ takeable [] s.setOff, ∃ k u, (u = s ∨ u = { s with choices := k :: s.choices })
      ∧ step { s with choices := k :: s.choices } = .next (State.take { u with setOff := x.2 } x.1))
    ∧ (s.setOff = [] → s.dueEvents = [] → step s = .next
        { s with
          now := s.now + 1,
          keepalive := if s.keepalive.window ≠ 0 ∧ s.keepalive.latch = false
            then { s.keepalive with remaining := s.keepalive.remaining - 1 } else s.keepalive,
          sync := { s.sync with drive := match s.sync.drive with
                                         | .driving r => .driving (r - 1)
                                         | .idle => .idle },
          rx := { s.rx with state := match s.rx.state with
                                     | .inFrame b gap =>
                                       .inFrame b (gap + s.settings.rate.bps * (110 / if s.settings.parity = .none then 10 else 11))
                                     | .hunting => .hunting } })

/-- What an empty queue may take at an instant. Each event of the part's own is due on its own conditions: the start-up event, the timers,
the guard, the gap, the frame take, a command's event and its completion at the instants chosen within the bound (log entry 3), the end of
a transmission at the ideal bit times (log entry 5), and what the part's own pulse does to SYNC_N, as an edge or an adoption (log entry 9)
once its filter's two base periods have passed (log entry 7), while it still pulls the line low (log entry 20). No other row falls due: it
comes from outside. Of the events in flight any but reports whose first stands behind one of the same sender may be taken, and of reports
the first goes (R173, log entry 8). -/
def Obligations.EventsFallDueByTheirConditions : Prop :=
  ∀ s : State,
    (Instr.startUpEvent ∈ s.dueEvents ↔ ∃ t, s.phase = .starting t ∧ t + 10000 ≤ s.now)
    ∧ (Instr.keepaliveExpiry ∈ s.dueEvents ↔
      s.keepalive.window ≠ 0 ∧ s.keepalive.latch = false ∧ s.keepalive.remaining = 0)
    ∧ (Instr.syncPulseExpiry ∈ s.dueEvents ↔ s.sync.drive = .driving 0)
    ∧ (Instr.syncEdge ∈ s.dueEvents ↔ s.phase ≠ .held ∧ s.sync.adopted = true ∧ s.sync.level = .high
      ∧ s.sync.since + 2 ≤ s.now ∧ ∃ r, s.sync.drive = .driving r ∧ r + 2 ≤ 20)
    ∧ (∀ input level, Instr.filterLevelAdopted input level ∈ s.dueEvents ↔ input = .syncN ∧ level = .low ∧ s.phase ≠ .held
      ∧ s.sync.adopted = false ∧ s.sync.since + 2 ≤ s.now ∧ ∃ r, s.sync.drive = .driving r ∧ r + 2 ≤ 20)
    ∧ (Instr.gapExpiry ∈ s.dueEvents ↔
      s.rx.char = none ∧ ∃ buffer gap, s.rx.state = .inFrame buffer gap ∧ 20 * (110 * 10000000) ≤ gap)
    ∧ (Instr.transmissionEnd ∈ s.dueEvents ↔ ∃ m rest x, s.tx.queue = m :: rest ∧ s.tx.sending = some x
      ∧ (m.frame.payload.length + 6) * (if x.settings.parity = .none then 10 else 11) * 10000000
          ≤ (s.now - x.startedAt) * x.settings.rate.bps)
    ∧ (Instr.frameTake ∈ s.dueEvents ↔ s.proc = .idle ∧ s.rx.inbound ≠ [] ∧ s.tx.queue.length < 8 ∧ s.phase = .started)
    ∧ (∀ (c : Instr) (k : Byte) (p : List Byte), c.kindAndPayload = some (k, p) →
      (c ∈ s.dueEvents ↔ ∃ x, Awaited s x c ∧ x.eventAt ≤ s.now))
    ∧ (Instr.commandCompletion ∈ s.dueEvents ↔ ∃ x a, s.proc = .executing x ∧ x.answer = some a ∧ x.completeAt ≤ s.now)
    ∧ (∀ n : LaneNo,
      (Instr.stepEndTimer n ∈ s.dueEvents ↔ ∃ r, (s.lane n).run = some r ∧ r.step.advance = .time
        ∧ r.startedAt + r.step.duration * 2 ^ (s.lane n).config.tickExp ≤ s.now)
      ∧ (Instr.blankingEnd n ∈ s.dueEvents ↔ ∃ r, (s.lane n).run = some r ∧ r.step.advance ≠ .time ∧ r.pastBlanking = false
        ∧ r.startedAt + (s.lane n).config.blanking * 2 ^ (s.lane n).config.tickExp ≤ s.now)
      ∧ (Instr.stepTimeout n ∈ s.dueEvents ↔ ∃ r, (s.lane n).run = some r ∧ r.step.advance ≠ .time
        ∧ r.startedAt + r.step.duration * 2 ^ (s.lane n).config.tickExp ≤ s.now))
    ∧ (∀ l : LineNo, Instr.guardExpiry l ∈ s.dueEvents ↔ ∃ since n, (s.line l).state = .pending since
      ∧ (s.line l).owner = some n ∧ since + (s.lane n).config.guard ≤ s.now)
    ∧ (∀ straps c f i e, ∀ x ∈ [Instr.pinReset, .resetRelease straps, .characterReceived c, .startBitRecognized, .validFrame f,
      .killAssertion, .killRelease, .triggerEdge i e, .syncLowToHigh], x ∉ s.dueEvents)
    ∧ ∀ (x : SetOff) (standing : List SetOff), (x, standing) ∈ takeable [] s.setOff ↔ ∃ before after, s.setOff = before ++ x :: after
      ∧ (∀ q, x.carried.head? = some q → ∀ b ∈ before, ∀ r ∈ b.carried, r.source ≠ q.source)
      ∧ standing = before ++ (match x with
          | .reports (_ :: r :: rs) => [.reports (r :: rs)]
          | _ => []) ++ after

/-- Every command and every event has a next state, takes no time, and leaves the queue of those still to be taken as it is. That a row
which is no event as the state stands answers a next state is the model's choice (log entry 1), and so is that PIN_RESET keeps the time
and the queue (log entry 2). -/
def Obligations.EveryRowHasANextStateAtOnce : Prop :=
  ∀ (c : Instr) (s : State), ∃ t, exec c s = .next t ∧ t.pending = s.pending ∧ t.now = s.now

/-- A command that is answered with a refusal changes no state but its answer; and a command row that the Command Processor does
not await, for want of a frame that carries it, is no event (the model's choice, log entry 1). A cause of safe hold still on its way to the
lane of a CONFIG_LANE, and an interlock block on its way to a lane of a START, which come first there (R36, R76, log entry 8), are stated
with those commands. -/
def Obligations.RefusedCommandChangesNothing : Prop :=
  ∀ (c : Instr) (k : Byte) (p : List Byte), c.kindAndPayload = some (k, p) → ∀ s : State,
    (∀ x, Awaited s x c → ∃ t a, exec c s = .next t ∧ t.proc = .executing { x with answer := some a }
      ∧ (a.code ≠ .ok → (∀ n raw, c = .configLane n raw → ∀ cause, SetOff.safe n cause ∉ s.setOff) →
        (∀ lanes mode, c = .start lanes mode → ∀ n a p, laneIn lanes n = true → SetOff.safe n (.interlock a p) ∉ s.setOff) →
        t = answered s x a))
    ∧ ((¬ ∃ x, Awaited s x c) → exec c s = .next s)

/-! ### Reset and start-up (R1, R20, R54, R70, R142, R165, R166) -/

/-- R1: a pin reset and REINIT leave all 24 line records at their reset values, with no guard interval in progress. -/
def Obligations.ResetClearsTheLineTable : Prop :=
  ∀ s : State,
    (∃ t, exec .pinReset s = .next t
      ∧ ∀ l, t.line l = ⟨none, .activeHigh, .inactive, none, .float⟩ ∧ t.guardDue l = false)
    ∧ (∀ x, Awaited s x .reinit → ∃ t, exec .reinit s = .next t
      ∧ ∀ l, t.line l = ⟨none, .activeHigh, .inactive, none, .float⟩ ∧ t.guardDue l = false)

/-- PIN_RESET sets every block to the values its chapter gives, cuts off the message in transmission and drops the frame in execution. The
time, the queue and the free choices are the model's own and stand (log entries 2 and 3), as are the times of the filters and of the sync
release (log entry 7) and the remaining time of the keepalive (log entry 16), here 0; the rate has no value until the release of RST_N
(log entry 4) and is not stated. -/
def Obligations.PinResetSetsEveryBlock : Prop :=
  ∀ s : State, ∃ t, exec .pinReset s = .next t
    ∧ t.phase = .held
    ∧ (∀ l, t.line l = ⟨none, .activeHigh, .inactive, none, .float⟩ ∧ t.linePin l = .highZ)
    ∧ t.faultN = false
    ∧ (∀ n, t.lane n = ⟨⟨0, 0, 0, 1, none, .rising, none, .rest, .note, .entries, 0⟩, .off, [], 0, none, none⟩)
    ∧ (∀ i, t.slot i = ⟨.free, none, [], 0⟩) ∧ t.freeSpace = 512 ∧ t.freeSlots = 32
    ∧ (∀ i, t.trigger i = ⟨.low, false, 0⟩)
    ∧ t.sync = ⟨.high, false, 0, .idle, 0⟩
    ∧ t.kill = ⟨false, false, 0⟩
    ∧ t.rx = ⟨.hunting, none, none, ⟨0, 0, 0, 0, 0, 0⟩, []⟩
    ∧ t.settings.parity = .none
    ∧ t.tx = ⟨[], none, 0⟩ ∧ t.txd = true
    ∧ t.keepalive = ⟨0, 0, false⟩
    ∧ t.proc = .idle ∧ t.setOff = []
    ∧ t.now = s.now ∧ t.pending = s.pending ∧ t.choices = s.choices ∧ t.draws = s.draws

/-- REINIT sets the lines, the lanes, the library and the sync drive to their reset values, removes the reports that wait, clears
the counters, and keeps everything else. Reports that were sent before it are offered first, and what was on its way to a lane finds it OFF
(log entry 18). -/
def Obligations.ReinitKeepsTheLink : Prop :=
  ∀ (s : State) (x : Execution), Awaited s x .reinit →
    let u := (offered { s with setOff := [] } (inFlight s)).tx
    exec .reinit s = .next (answered
      { s with
        lines := Vector.replicate 24 ⟨none, .activeHigh, .inactive, none, .float⟩, faultN := false,
        lanes := Vector.replicate 4 ⟨⟨0, 0, 0, 1, none, .rising, none, .rest, .note, .entries, 0⟩, .off, [], 0, none, none⟩,
        slots := Vector.replicate 32 ⟨.free, none, [], 0⟩,
        sync := { s.sync with drive := .idle, releasedAt := if s.sync.drive = .idle then s.sync.releasedAt else s.now },
        tx := { queue := (if u.sending = none then [] else u.queue.take 1)
                  ++ (if u.sending = none then u.queue else u.queue.drop 1).filter (fun m => match m with
                    | .reply _ _ _ => true
                    | .report _ _ => false),
                sending := u.sending, loss := 0 },
        rx := { s.rx with counters := ⟨0, 0, 0, 0, 0, 0⟩ }, setOff := [] }
      x ⟨.ok, .none, none⟩)

/-- RESET_RELEASE: the link takes the rate of the straps and parity NONE, and the receiver begins hunting and the filters to
hold levels (R94, R124, R135, R142, R146, R166, log entry 7).
START_UP_EVENT, 1 ms after it: RESET_DONE is offered, then KILL_ASSERTED when KILL_N is asserted, and frames may be taken from
then on (R166). -/
def Obligations.ReleaseAndStartUp : Prop :=
  ∀ s : State,
    (∀ straps : BitVec 2, s.phase = .held →
      exec (.resetRelease straps) s = .next
        { s with
          phase := .starting s.now,
          settings := ⟨if straps = 0 then .r115200 else if straps = 1 then .r460800 else if straps = 2 then .r1000000 else .r2000000, .none⟩,
          rx := { s.rx with state := .hunting },
          triggers := s.triggers.map (fun f => { f with since := s.now }), sync := { s.sync with since := s.now },
          kill := { s.kill with since := s.now } })
    ∧ ∀ released : Nat, s.phase = .starting released → released + 10000 ≤ s.now →
      exec .startUpEvent s = .next
        { offered s ([.notice .resetDone] ++ if s.kill.asserted then [.notice .killAsserted] else []) with phase := .started }

/-! ### Commands of the link and of the whole part (chapters 9 and 10) -/

/-- IDENTIFY is accepted in every state and returns the identity fields; PING is accepted and changes nothing. Only the
answer differs after either (R162, R163). -/
def Obligations.IdentifyAndPingOnlyAnswer : Prop :=
  ∀ (s : State) (x : Execution),
    (Awaited s x .identify → exec .identify s = .next (answered s x ⟨.ok, .identity, none⟩))
    ∧ ReplyFields.identity.bytes = [0x6B, 0x21, 0x04, 0x24, 1, 24, 4, 32, 0x02, 0x00, 16]
    ∧ (Awaited s x .ping → exec .ping s = .next (answered s x ⟨.ok, .none, none⟩))

/-- GET_STATUS reads its scope at one instant, and changes nothing but the six counters under scope LINK with the clear flag set, after
reading them (R164, Table 10-4). Scope LANE gives the break-pending mark of a STEP entry clear (R178). That the time a line has waited is
given as 255 at most is the model's reading (log entry 14). -/
def Obligations.GetStatusReadsItsScope : Prop :=
  ∀ (s : State) (x : Execution) (scope arg : Byte), Awaited s x (.getStatus scope arg) →
    (scope = 0 → exec (.getStatus scope arg) s = .next (answered s x
      ⟨.ok, .status (.part s.laneStates s.kill.asserted s.keepalive.latch s.tx.loss s.freeSpace s.freeSlots), none⟩))
    ∧ (∀ n : LaneNo, scope = 1 → arg.toNat = n.val → exec (.getStatus scope arg) s = .next (answered s x
      ⟨.ok, .status (.lane n (s.lane n).config (s.lane n).state (s.lane n).queue.length (s.lane n).nextSerial
        ((s.lane n).current.map fun c =>
          { serial := c.entry.serial,
            isPlay := (match c.entry.body with
              | .step _ => false
              | .play _ _ => true),
            index := c.index, pass := c.pass, elapsed := s.elapsed n,
            breakPending := (match c.entry.body with
              | .step _ => false
              | .play _ _ => c.breakPending) })), none⟩))
    ∧ (scope = 2 → exec (.getStatus scope arg) s = .next (answered s x
      ⟨.ok, .status (.lines ((List.finRange 24).map fun l => ⟨s.line l, match (s.line l).state with
        | .pending since => min (s.now - since) 255
        | _ => 0⟩)), none⟩))
    ∧ (scope = 3 → exec (.getStatus scope arg) s = .next (answered
        (if arg = 0 then s else { s with rx := { s.rx with counters := ⟨0, 0, 0, 0, 0, 0⟩ } }) x
        ⟨.ok, .status (.link s.rx.counters s.settings s.keepalive.window), none⟩))
    ∧ (∀ i : SlotNo, scope = 4 → arg.toNat = i.val → exec (.getStatus scope arg) s = .next (answered s x
      ⟨.ok, .status (.seq i (s.slot i).state ((s.slot i).declared.getD 0) (s.slot i).steps.length (s.slot i).useCount), none⟩))
    ∧ (4 < scope.toNat ∨ (scope = 4 ∧ 31 < arg.toNat) →
      exec (.getStatus scope arg) s = .next (answered s x ⟨.badValue, .none, none⟩))

/-- SET_LINK accepted sets the window and restarts the remaining time at once, and attaches the new rate and parity to its own
reply; refused it changes nothing and returns the settings in force (R153, R154). -/
def Obligations.SetLinkChangesTheWindowAtOnce : Prop :=
  ∀ (s : State) (x : Execution) (rate parity : Byte) (window : Half), Awaited s x (.setLink rate parity window) →
    (∀ (r : Rate) (p : Parity), rate = r.code → parity = p.code → window.toNat ≤ 6000 →
      exec (.setLink rate parity window) s = .next (answered
        { s with keepalive := { s.keepalive with window := window.toNat, remaining := window.toNat * 100000 } } x
        ⟨.ok, .link ⟨r, p⟩ window.toNat, some ⟨r, p⟩⟩))
    ∧ (5 < rate.toNat ∨ 2 < parity.toNat ∨ 6000 < window.toNat →
      exec (.setLink rate parity window) s = .next (answered s x ⟨.badValue, .link s.settings s.keepalive.window, none⟩))

/-! ### Commands of the line table (section 1.6) -/

/-- R14: CONFIG_LINE, its two checks in their order, and its effect: the polarity and safe level of one line, and nothing else. -/
def Obligations.ConfigLineChecksAndEffect : Prop :=
  ∀ (s : State) (x : Execution) (line polarity safeLevel : Byte), Awaited s x (.configLine line polarity safeLevel) →
    (23 < line.toNat ∨ 1 < polarity.toNat ∨ 1 < safeLevel.toNat →
      exec (.configLine line polarity safeLevel) s = .next (answered s x ⟨.badValue, .none, none⟩))
    ∧ ∀ (l : LineNo) (p : Polarity) (v : SafeLevel), line.toNat = l.val → polarity = p.code → safeLevel = v.code →
      ((s.line l).owner ≠ none →
        exec (.configLine line polarity safeLevel) s = .next (answered s x ⟨.wrongState, .none, none⟩))
      ∧ ((s.line l).owner = none →
        exec (.configLine line polarity safeLevel) s = .next (answered
          (s.updLine l fun r => { r with polarity := p, safeLevel := v }) x ⟨.ok, .none, none⟩))

/-- SET_PAIR: its four checks in their order; accepted, each line becomes the other's partner and nothing else changes
(R15, R16). -/
def Obligations.SetPairChecksAndEffect : Prop :=
  ∀ (s : State) (x : Execution) (a b : Byte), Awaited s x (.setPair a b) →
    (23 < a.toNat ∨ 23 < b.toNat ∨ a = b → exec (.setPair a b) s = .next (answered s x ⟨.badValue, .none, none⟩))
    ∧ ∀ k l : LineNo, a.toNat = k.val → b.toNat = l.val → k ≠ l →
      (s.partner k ≠ none ∨ s.partner l ≠ none →
        exec (.setPair a b) s = .next (answered s x ⟨.lineTaken, .none, none⟩))
      ∧ (s.partner k = none → s.partner l = none →
        ((∃ n, ((s.line k).owner = some n ∨ (s.line l).owner = some n)
            ∧ (((s.lane n).state ≠ .off ∧ (s.lane n).state ≠ .idle ∧ (s.lane n).state ≠ .safe) ∨ (s.lane n).queue ≠ [])) →
          exec (.setPair a b) s = .next (answered s x ⟨.wrongState, .none, none⟩))
        ∧ ((∀ n, (s.line k).owner = some n ∨ (s.line l).owner = some n →
            ((s.lane n).state = .off ∨ (s.lane n).state = .idle ∨ (s.lane n).state = .safe) ∧ (s.lane n).queue = []) →
          ((∃ n m, (s.line k).owner = some n ∧ (s.line l).owner = some m
              ∧ lineIn (s.lane n).config.restSet k = true ∧ lineIn (s.lane m).config.restSet l = true) →
            exec (.setPair a b) s = .next (answered s x ⟨.interlock, .none, none⟩))
          ∧ ((∀ n m, (s.line k).owner = some n → (s.line l).owner = some m →
              lineIn (s.lane n).config.restSet k = false ∨ lineIn (s.lane m).config.restSet l = false) →
            exec (.setPair a b) s = .next (answered
              ((s.updLine k fun r => { r with partner := some l }).updLine l fun r => { r with partner := some k })
              x ⟨.ok, .none, none⟩))))

/-- R17: CLEAR_PAIR, its two checks in their order; accepted, the pair is dissolved and the former partner returned, and nothing
else changes. -/
def Obligations.ClearPairChecksAndEffect : Prop :=
  ∀ (s : State) (x : Execution) (a : Byte), Awaited s x (.clearPair a) →
    (23 < a.toNat → exec (.clearPair a) s = .next (answered s x ⟨.badValue, .none, none⟩))
    ∧ ∀ k : LineNo, a.toNat = k.val →
      (s.partner k = none → exec (.clearPair a) s = .next (answered s x ⟨.badValue, .none, none⟩))
      ∧ ∀ l, s.partner k = some l →
        ((∃ n, ((s.line k).owner = some n ∨ (s.line l).owner = some n)
            ∧ (((s.lane n).state ≠ .off ∧ (s.lane n).state ≠ .idle ∧ (s.lane n).state ≠ .safe) ∨ (s.lane n).queue ≠ [])) →
          exec (.clearPair a) s = .next (answered s x ⟨.wrongState, .none, none⟩))
        ∧ ((∀ n, (s.line k).owner = some n ∨ (s.line l).owner = some n →
            ((s.lane n).state = .off ∨ (s.lane n).state = .idle ∨ (s.lane n).state = .safe) ∧ (s.lane n).queue = []) →
          exec (.clearPair a) s = .next (answered
            ((s.updLine k fun r => { r with partner := none }).updLine l fun r => { r with partner := none })
            x ⟨.ok, .line l, none⟩))

/-! ### Lane configuration (chapter 2) -/

/-- CONFIG_LANE: its seven checks in their order; each refusal changes nothing and returns the lane's state (R27, R33, R35). A cause of
safe hold that has been sent to the lane comes first there: the lane is in SAFE, and the command is refused on that (R13, R36, log entry
8). -/
def Obligations.ConfigLaneChecksInOrder : Prop :=
  ∀ (s : State) (x : Execution) (n : LaneNo) (raw : RawConfig), Awaited s x (.configLane n raw) →
    let refuse (code : ResultCode) : Prop :=
      exec (.configLane n raw) s = .next (answered s x ⟨code, .laneState (s.lane n).state, none⟩)
    let outOfRange : Prop :=
      10 < raw.tickExp.toNat ∨ raw.blanking = 0 ∨ (3 < raw.trigger.toNat ∧ raw.trigger ≠ 0xFF) ∨ 2 < raw.edge.toNat
        ∨ 1 < raw.endAction.toNat ∨ 1 < raw.timeoutAction.toNat ∨ 2 < raw.policy.toNat
        ∨ (3 < raw.leader.toNat ∧ raw.leader ≠ 0xFF) ∨ ∃ l : LineNo, lineIn raw.restSet l = true ∧ lineIn raw.lines l = false
    let taken : Prop := ∃ (l : LineNo) (m : LaneNo), lineIn raw.lines l = true ∧ (s.line l).owner = some m ∧ m ≠ n
    let paired : Prop := ∃ l p : LineNo, lineIn raw.restSet l = true ∧ s.partner l = some p ∧ lineIn raw.restSet p = true
    let badLeader : Prop := ∃ m : LaneNo, raw.leader.toNat = m.val
      ∧ (m = n ∨ (s.lane m).config.leader ≠ none ∨ ∃ q, q ≠ n ∧ (s.lane q).config.leader = some n)
    ((∀ c, SetOff.safe n c ∉ s.setOff) →
      ((s.lane n).state ≠ .off ∧ (s.lane n).state ≠ .idle → refuse .wrongState)
      ∧ ((s.lane n).state = .off ∨ (s.lane n).state = .idle →
        ((s.lane n).queue ≠ [] → refuse .wrongState)
        ∧ ((s.lane n).queue = [] →
          (outOfRange → refuse .badValue)
          ∧ (¬ outOfRange → (taken → refuse .lineTaken)
          ∧ (¬ taken → (paired → refuse .interlock)
          ∧ (¬ paired → (badLeader → refuse .leaderInvalid)
          ∧ (¬ badLeader → s.kill.asserted = true → raw.lines ≠ 0 → refuse .killActive)))))))
    ∧ (∀ (before after : List SetOff) (c : SafeCause), s.setOff = before ++ .safe n c :: after →
      (∀ d, SetOff.safe n d ∉ before) → (s.lane n).state ≠ .off →
      ∃ t, exec (.configLane n raw) s = .next (answered t x ⟨.wrongState, .laneState .safe, none⟩)
        ∧ ((s.lane n).state ≠ .safe → EntersSafe n c { s with setOff := before ++ after } t)
        ∧ ((s.lane n).state = .safe → t = { s with setOff := before ++ after }))

/-- An accepted CONFIG_LANE takes each field of the record from its byte, releases the lines it drops, takes the lines it gains, sets the
lane OFF or IDLE and applies the rest set; no other lane, line or block changes (R2, R13, R34, Table 2-1, Table 12-1). -/
def Obligations.ConfigLaneAccepted : Prop :=
  ∀ (s : State) (x : Execution) (n : LaneNo) (raw : RawConfig) (trigger : Option TrigNo) (edge : TriggerEdge) (leader : Option LaneNo)
    (endAction : EndAction) (timeoutAction : TimeoutAction) (policy : Policy),
    Awaited s x (.configLane n raw) → (∀ c, SetOff.safe n c ∉ s.setOff) →
    ((s.lane n).state = .off ∨ (s.lane n).state = .idle) → (s.lane n).queue = [] →
    raw.tickExp.toNat ≤ 10 → raw.blanking ≠ 0 →
    raw.trigger.toNat = (match trigger with
      | some i => i.val
      | none => 255) →
    raw.edge = (match edge with
      | .rising => 0
      | .falling => 1
      | .both => 2) →
    raw.leader.toNat = (match leader with
      | some m => m.val
      | none => 255) →
    raw.endAction = (match endAction with
      | .hold => 0
      | .rest => 1) →
    raw.timeoutAction = (match timeoutAction with
      | .note => 0
      | .fault => 1) →
    raw.policy = (match policy with
      | .none => 0
      | .entries => 1
      | .steps => 2) →
    (∀ l : LineNo, lineIn raw.restSet l = true → lineIn raw.lines l = true) →
    (∀ (l : LineNo) (m : LaneNo), lineIn raw.lines l = true → (s.line l).owner = some m → m = n) →
    (∀ l p : LineNo, lineIn raw.restSet l = true → s.partner l = some p → lineIn raw.restSet p = false) →
    (∀ m : LaneNo, leader = some m →
      m ≠ n ∧ (s.lane m).config.leader = none ∧ ∀ q, q ≠ n → (s.lane q).config.leader ≠ some n) →
    (s.kill.asserted = true → raw.lines = 0) →
    ∃ t, exec (.configLane n raw) s = .next (answered t x
        ⟨.ok, .laneState (if raw.lines = 0 then .off else .idle), none⟩)
      ∧ t = { s with lanes := t.lanes, lines := t.lines }
      ∧ t.lane n = { s.lane n with
          config := { lines := raw.lines, tickExp := raw.tickExp.toNat, guard := raw.guard.toNat, blanking := raw.blanking.toNat,
                      trigger := trigger, edge := edge, leader := leader, endAction := endAction,
                      timeoutAction := timeoutAction, policy := policy, restSet := raw.restSet },
          state := if raw.lines = 0 then .off else .idle }
      ∧ (∀ m, m ≠ n → t.lane m = s.lane m)
      ∧ ∀ l, t.line l =
          if lineIn raw.lines l = true then
            { s.line l with
              owner := some n,
              state := patterned s.now (lineIn raw.restSet l) (if (s.line l).owner = some n then (s.line l).state else .inactive) }
          else if (s.line l).owner = some n then { s.line l with owner := none, state := .float }
          else s.line l

/-! ### Steps, entries and acceptance (chapter 3) -/

/-- Table 3-4: the checks of one step against a lane, in their order (R44, R45, R46). -/
def Obligations.StepChecksInOrder : Prop :=
  ∀ (c : LaneConfig) (partner : LineNo → Option LineNo) (st : Step),
    let notOwned : Prop := ∃ l : LineNo, lineIn st.active l = true ∧ lineIn c.lines l = false
    let paired : Prop := ∃ l p : LineNo, lineIn st.active l = true ∧ partner l = some p ∧ lineIn st.active p = true
    let withinGuard : Prop := st.duration * 2 ^ c.tickExp ≤ c.guard
    let withinBlanking : Prop := st.advance ≠ .time ∧ st.duration ≤ c.blanking
    (notOwned → stepCheck c partner st = some .notOwned)
    ∧ (¬ notOwned → paired → stepCheck c partner st = some .interlock)
    ∧ (¬ notOwned → ¬ paired → withinGuard → stepCheck c partner st = some .tooShort)
    ∧ (¬ notOwned → ¬ paired → ¬ withinGuard → withinBlanking → stepCheck c partner st = some .tooShort)
    ∧ (¬ notOwned → ¬ paired → ¬ withinGuard → ¬ withinBlanking →
      (st.advance = .edge → c.trigger = none → stepCheck c partner st = some .badValue)
      ∧ (st.advance = .follow → c.leader = none → stepCheck c partner st = some .badValue)
      ∧ (st.advance = .time ∨ (st.advance = .edge ∧ c.trigger ≠ none) ∨ (st.advance = .follow ∧ c.leader ≠ none) →
        stepCheck c partner st = none))

/-- ENQUEUE's checks in their order: the lane's state, the free room, then each entry in turn; the first that fails gives the code and the
detail, and nothing changes (R47, R48, R51). And what the checks of one entry answer: a kind that is neither, a step by its bytes and the
checks of Table 3-4, a sequence by its slot, its steps and its repeats (R38, R48). -/
def Obligations.EnqueueChecksInOrder : Prop :=
  ∀ (s : State) (n : LaneNo),
    (∀ (x : Execution) (entries : List RawEntry), Awaited s x (.enqueue n entries) →
      let refuse (code : ResultCode) (detail : Nat) : Prop :=
        exec (.enqueue n entries) s = .next (answered s x
          ⟨code, .enqueued (s.lane n).nextSerial 0 (s.lane n).state detail, none⟩)
      ((s.lane n).state = .off ∨ (s.lane n).state = .stopping ∨ (s.lane n).state = .safe → refuse .wrongState 0)
      ∧ ((s.lane n).state ≠ .off → (s.lane n).state ≠ .stopping → (s.lane n).state ≠ .safe →
        (16 - (s.lane n).queue.length < entries.length → refuse .queueFull (16 - (s.lane n).queue.length))
        ∧ (entries.length ≤ 16 - (s.lane n).queue.length →
          ∀ (before after : List RawEntry) (e : RawEntry) (code : ResultCode), entries = before ++ e :: after →
            (∀ b ∈ before, ∃ body, s.checkEntry n b = .ok body) → s.checkEntry n e = .error code → refuse code before.length)))
    ∧ (∀ kind, s.checkEntry n (.unknown kind) = .error .badValue)
    ∧ (∀ raw : RawStep, (raw.duration = 0 ∨ 2 < raw.advance.toNat → s.checkEntry n (.step raw) = .error .badValue)
      ∧ ∀ st : Step, Gives raw st → s.checkEntry n (.step raw) = (match stepCheck (s.lane n).config s.partner st with
        | some code => .error code
        | none => .ok (.step st)))
    ∧ (∀ (id : Byte) (repeats : Half), 31 < id.toNat → s.checkEntry n (.play id repeats) = .error .noSequence)
    ∧ ∀ (id : Byte) (repeats : Half) (i : SlotNo), id.toNat = i.val →
      ((s.slot i).state = .free → s.checkEntry n (.play id repeats) = .error .noSequence)
      ∧ ((s.slot i).state = .opened → s.checkEntry n (.play id repeats) = .error .seqOpen)
      ∧ ((s.slot i).state = .sealed →
        (∀ (before after : List Step) (st : Step) (code : ResultCode), (s.slot i).steps = before ++ st :: after →
          (∀ b ∈ before, stepCheck (s.lane n).config s.partner b = none) →
          stepCheck (s.lane n).config s.partner st = some code → s.checkEntry n (.play id repeats) = .error code)
        ∧ ((∀ st ∈ (s.slot i).steps, stepCheck (s.lane n).config s.partner st = none) →
          (255 < repeats.toNat → s.checkEntry n (.play id repeats) = .error .badValue)
          ∧ (repeats.toNat ≤ 255 → s.checkEntry n (.play id repeats) = .ok (.play i repeats.toNat))))

/-- An accepted ENQUEUE: the entries take serials in their order and join the tail, the slots they name are counted, and nothing else
changes (R40, R49, R51). In STARVED the first new entry begins at once: the lane is RUNNING, its lines are treated by the step's active
set, its followers are sent its boundary event, and the reply carries RUNNING (R50, R89). -/
def Obligations.EnqueueJoinsTheTail : Prop :=
  ∀ (s : State) (x : Execution) (n : LaneNo) (entries : List RawEntry) (bodies : List EntryBody),
    Awaited s x (.enqueue n entries) →
    entries.length ≤ 16 - (s.lane n).queue.length →
    entries.map (s.checkEntry n) = bodies.map .ok →
    let counted (t : State) : Prop :=
      ∀ i, t.slot i = { s.slot i with useCount := (s.slot i).useCount + bodies.countP (EntryBody.names i) }
    ((s.lane n).state ∈ [LaneState.idle, .armed, .running, .pausing, .paused] →
      ∃ t, exec (.enqueue n entries) s = .next (answered t x
          ⟨.ok, .enqueued (s.lane n).nextSerial entries.length (s.lane n).state 0, none⟩)
        ∧ t = { s with lanes := t.lanes, slots := t.slots }
        ∧ t.lane n = { s.lane n with
            queue := (s.lane n).queue ++ bodies.mapIdx fun i b => ⟨(s.lane n).nextSerial + BitVec.ofNat 16 i, b⟩,
            nextSerial := (s.lane n).nextSerial + BitVec.ofNat 16 bodies.length }
        ∧ (∀ m, m ≠ n → t.lane m = s.lane m)
        ∧ counted t)
    ∧ ((s.lane n).state = .starved → (s.lane n).current = none → (s.lane n).queue = [] →
      ∀ (first : EntryBody) (rest : List EntryBody) (st : Step), bodies = first :: rest →
      s.stepAt ⟨⟨(s.lane n).nextSerial, first⟩, 0, 1, false⟩ = some st →
      ∃ t, exec (.enqueue n entries) s = .next (answered t x
          ⟨.ok, .enqueued (s.lane n).nextSerial entries.length .running 0, none⟩)
        ∧ t.lane n = { begun (s.lane n) ⟨⟨(s.lane n).nextSerial, first⟩, 0, 1, false⟩ st s.now with
            queue := rest.mapIdx fun i b => ⟨(s.lane n).nextSerial + BitVec.ofNat 16 (i + 1), b⟩,
            nextSerial := (s.lane n).nextSerial + BitVec.ofNat 16 entries.length }
        ∧ Applied n st.active s t ∧ OnlyLane n s t ∧ t.faultN = s.faultN ∧ t.setOff = s.setOff ++ toFollowers s n ∧ counted t)

/-! ### The sequence library (chapter 4) -/

/-- R57 and R58: OPEN_SEQ, its four checks in their order, and its effect: the slot is OPEN with the declared length and no steps,
and nothing else changes. -/
def Obligations.OpenSeqChecksAndEffect : Prop :=
  ∀ (s : State) (x : Execution) (id length : Byte), Awaited s x (.openSeq id length) →
    (31 < id.toNat → exec (.openSeq id length) s = .next (answered s x ⟨.badValue, .slotSpace .free s.freeSpace, none⟩))
    ∧ ∀ i : SlotNo, id.toNat = i.val →
      ((s.slot i).state ≠ .free →
        exec (.openSeq id length) s = .next (answered s x ⟨.wrongState, .slotSpace (s.slot i).state s.freeSpace, none⟩))
      ∧ ((s.slot i).state = .free →
        (length.toNat = 0 ∨ 64 < length.toNat →
          exec (.openSeq id length) s = .next (answered s x ⟨.badValue, .slotSpace .free s.freeSpace, none⟩))
        ∧ (1 ≤ length.toNat → length.toNat ≤ 64 →
          (s.freeSpace < length.toNat →
            exec (.openSeq id length) s = .next (answered s x ⟨.noSpace, .slotSpace .free s.freeSpace, none⟩))
          ∧ (length.toNat ≤ s.freeSpace → SlotSound (s.slot i) →
            exec (.openSeq id length) s = .next (answered
              (s.updSlot i fun _ => ⟨.opened, some length.toNat, [], 0⟩) x
              ⟨.ok, .slotSpace .opened (s.freeSpace - length.toNat), none⟩)
            ∧ (s.updSlot i fun _ => ⟨.opened, some length.toNat, [], 0⟩).freeSpace = s.freeSpace - length.toNat
            ∧ (s.updSlot i fun _ => ⟨.opened, some length.toNat, [], 0⟩).freeSlots + 1 = s.freeSlots)))

/-- R59: APPEND_SEQ, its five checks in their order; accepted, all its steps are stored behind those of the slot, which is SEALED
when it is full, and nothing else changes (R60). -/
def Obligations.AppendSeqChecksAndEffect : Prop :=
  ∀ (s : State) (x : Execution) (id offset : Byte) (raw : List RawStep), Awaited s x (.appendSeq id offset raw) →
    (31 < id.toNat → exec (.appendSeq id offset raw) s = .next (answered s x ⟨.noSequence, .slotFilled .free 0, none⟩))
    ∧ ∀ i : SlotNo, id.toNat = i.val →
      let refuse (code : ResultCode) : Prop :=
        exec (.appendSeq id offset raw) s = .next (answered s x ⟨code, .slotFilled (s.slot i).state (s.slot i).steps.length, none⟩)
      ((s.slot i).state = .free → refuse .noSequence)
      ∧ ((s.slot i).state = .sealed → refuse .wrongState)
      ∧ ((s.slot i).state = .opened →
        (offset.toNat ≠ (s.slot i).steps.length → refuse .badOffset)
        ∧ (offset.toNat = (s.slot i).steps.length →
          ((s.slot i).reserved < (s.slot i).steps.length + raw.length → refuse .badValue)
          ∧ ((s.slot i).steps.length + raw.length ≤ (s.slot i).reserved →
            ((∃ r ∈ raw, r.duration = 0 ∨ 2 < r.advance.toNat) → refuse .badValue)
            ∧ ∀ steps : List Step, List.Forall₂ Gives raw steps →
              let now := if (s.slot i).steps.length + raw.length = (s.slot i).reserved then SlotState.sealed else .opened
              exec (.appendSeq id offset raw) s = .next (answered
                (s.updSlot i fun y => { y with steps := y.steps ++ steps, state := now }) x
                ⟨.ok, .slotFilled now ((s.slot i).steps.length + raw.length), none⟩))))

/-- R62: DELETE_SEQ, its two checks in their order; accepted, the slot is FREE, and nothing else changes. -/
def Obligations.DeleteSeqChecksAndEffect : Prop :=
  ∀ (s : State) (x : Execution) (id : Byte), Awaited s x (.deleteSeq id) →
    (31 < id.toNat → exec (.deleteSeq id) s = .next (answered s x ⟨.noSequence, .slotUse 0 s.freeSpace, none⟩))
    ∧ ∀ i : SlotNo, id.toNat = i.val →
      ((s.slot i).state = .free →
        exec (.deleteSeq id) s = .next (answered s x ⟨.noSequence, .slotUse 0 s.freeSpace, none⟩))
      ∧ ((s.slot i).state ≠ .free →
        (0 < (s.slot i).useCount →
          exec (.deleteSeq id) s = .next (answered s x ⟨.inUse, .slotUse (s.slot i).useCount s.freeSpace, none⟩))
        ∧ ((s.slot i).useCount = 0 → s.reservedSteps ≤ 512 →
          exec (.deleteSeq id) s = .next (answered (s.updSlot i fun _ => ⟨.free, none, [], 0⟩) x
            ⟨.ok, .slotUse 0 (s.freeSpace + (s.slot i).reserved), none⟩)
          ∧ (s.updSlot i fun _ => ⟨.free, none, [], 0⟩).freeSpace = s.freeSpace + (s.slot i).reserved
          ∧ (s.updSlot i fun _ => ⟨.free, none, [], 0⟩).freeSlots = s.freeSlots + 1))

/-! ### START and the lanes in play (chapter 5) -/

/-- START. An interlock block that has been sent to a lane of the set comes first there, so that lane is in SAFE, and the command is
refused by the checks on what they leave (R76, log entry 8). With none on its way: its checks in their order; a refused START changes no
lane, and its reply names the failing lane of check 2 (R72, R75). Accepted, mode NOW: every lane of the set begins its queue head's first
step in the one event, and the boundary events go to the followers; mode ON_SYNC: every lane of the set becomes ARMED; nothing else
changes (R73, R74, R89). The reply's lane states are those that the command's own event leaves (R75, log entry 11). -/
def Obligations.StartChecksAndEffect : Prop :=
  ∀ (s : State) (x : Execution) (lanes : LaneSet),
    (∀ mode : Byte, Awaited s x (.start lanes mode) →
      (∀ n a p, laneIn lanes n = true → SetOff.safe n (.interlock a p) ∉ s.setOff) →
      let refuse (code : ResultCode) (failing : Option LaneNo) : Prop :=
        exec (.start lanes mode) s = .next (answered s x ⟨code, .started failing s.laneStates, none⟩)
      (lanes = 0 ∨ 1 < mode.toNat → refuse .badValue none)
      ∧ (mode.toNat ≤ 1 → ∀ n : LaneNo, laneIn lanes n = true →
        (∀ m : LaneNo, m < n → laneIn lanes m = true → (s.lane m).state = .idle ∧ (s.lane m).queue ≠ []) →
        ((s.lane n).state ≠ .idle → refuse .wrongState (some n))
        ∧ ((s.lane n).state = .idle → (s.lane n).queue = [] → refuse .empty (some n))))
    ∧ (lanes ≠ 0 → Awaited s x (.start lanes 0) →
      (∀ n a p, laneIn lanes n = true → SetOff.safe n (.interlock a p) ∉ s.setOff) →
      (∀ n, laneIn lanes n = true → (s.lane n).state = .idle
        ∧ ∃ e rest st, (s.lane n).queue = e :: rest ∧ s.stepAt ⟨e, 0, 1, false⟩ = some st) →
      ∃ t, exec (.start lanes 0) s = .next (answered t x ⟨.ok, .started none t.laneStates, none⟩)
        ∧ t = { s with lanes := t.lanes, lines := t.lines, setOff := t.setOff }
        ∧ (∀ n e rest st, laneIn lanes n = true → (s.lane n).queue = e :: rest → s.stepAt ⟨e, 0, 1, false⟩ = some st →
          t.lane n = begun { s.lane n with queue := rest } ⟨e, 0, 1, false⟩ st s.now ∧ Applied n st.active s t)
        ∧ (∀ m, laneIn lanes m = false → t.lane m = s.lane m)
        ∧ (∀ l, (∀ n, laneIn lanes n = true → (s.line l).owner ≠ some n) → t.line l = s.line l)
        ∧ t.setOff = s.setOff ++ ((List.finRange 4).filter (laneIn lanes)).flatMap (toFollowers s))
    ∧ (lanes ≠ 0 → Awaited s x (.start lanes 1) →
      (∀ n a p, laneIn lanes n = true → SetOff.safe n (.interlock a p) ∉ s.setOff) →
      (∀ n, laneIn lanes n = true → (s.lane n).state = .idle ∧ (s.lane n).queue ≠ []) →
      ∃ t, exec (.start lanes 1) s = .next (answered t x ⟨.ok, .started none t.laneStates, none⟩)
        ∧ t = { s with lanes := t.lanes }
        ∧ ∀ n, t.lane n = if laneIn lanes n = true then { s.lane n with state := .armed } else s.lane n)
    ∧ (∀ mode : Byte, Awaited s x (.start lanes mode) → mode.toNat ≤ 1 →
      let blocked : List LaneNo := (List.finRange 4).filter fun n => laneIn lanes n && s.setOff.any (SetOff.blocks n)
      blocked ≠ [] →
      ∃ t failing code, exec (.start lanes mode) s = .next (answered t x ⟨code, .started (some failing) t.laneStates, none⟩)
        ∧ laneIn lanes failing = true
        ∧ (∀ m : LaneNo, m < failing → laneIn lanes m = true → (t.lane m).state = .idle ∧ (t.lane m).queue ≠ [])
        ∧ (((t.lane failing).state ≠ .idle ∧ code = .wrongState)
          ∨ ((t.lane failing).state = .idle ∧ (t.lane failing).queue = [] ∧ code = .empty))
        ∧ t = { s with lanes := t.lanes, lines := t.lines, slots := t.slots, faultN := t.faultN, setOff := t.setOff }
        ∧ InSafe (blocked.filter fun n => (s.lane n).state != .off && (s.lane n).state != .safe) s t
        ∧ ∀ (n : LaneNo) (a p : LineNo) (before after : List SetOff), blocked = [n] → s.setOff = before ++ .safe n (.interlock a p) :: after →
          before.any (SetOff.blocks n) = false → (s.lane n).state ≠ .off → (s.lane n).state ≠ .safe →
          t.setOff = before ++ after ++ sent (safeReports s n (.interlock a p)))

/-- STEP_END_TIMER, d ticks after the start of a TIME step: the step boundary procedure, with outcome TIME, or AMENDED for an
amended step, and d as its elapsed ticks (R77, R80, R81, R120). -/
def Obligations.StepEndTimerRunsTheBoundary : Prop :=
  ∀ (s : State) (n : LaneNo) (r : StepRun) (c : Current), (s.lane n).run = some r → (s.lane n).current = some c →
    r.step.advance = .time → r.startedAt + r.step.duration * 2 ^ (s.lane n).config.tickExp ≤ s.now →
    ∃ t, exec (.stepEndTimer n) s = .next t
      ∧ BoundaryTaken n c (if r.amended then .amended else .time) r.step.duration false s t

/-! ### Edges, followers and timeouts (chapter 6) -/

/-- BLANKING_END, b ticks after the start of an EDGE or FOLLOW step: the step is past its blanking, and nothing else happens.
STEP_TIMEOUT, d ticks after it: under NOTE the boundary is taken like any other, with outcome TIMEOUT; under FAULT the step's
report is sent and the lane enters SAFE with cause TIMEOUT (R82, R96, R101, R102, R131). -/
def Obligations.BlankingEndAndStepTimeout : Prop :=
  ∀ (s : State) (n : LaneNo) (r : StepRun) (c : Current), (s.lane n).run = some r → (s.lane n).current = some c →
    r.step.advance ≠ .time →
    (r.pastBlanking = false → r.startedAt + (s.lane n).config.blanking * 2 ^ (s.lane n).config.tickExp ≤ s.now →
      exec (.blankingEnd n) s = .next (s.updLane n fun y => { y with run := some { r with pastBlanking := true } }))
    ∧ (r.startedAt + r.step.duration * 2 ^ (s.lane n).config.tickExp ≤ s.now →
      ((s.lane n).config.timeoutAction = .note →
        ∃ t, exec (.stepTimeout n) s = .next t ∧ BoundaryTaken n c .timeout r.step.duration false s t)
      ∧ ((s.lane n).config.timeoutAction = .fault → (s.lane n).state ∈ [LaneState.running, .pausing, .stopping] →
        ∃ t, exec (.stepTimeout n) s = .next t ∧ OnlyLane n s t ∧ InSafe [n] s t
          ∧ t.setOff = s.setOff ++ sent
            (stepReports (s.lane n).config.policy (.stepEnd n c.entry.serial c.index c.pass .timeout r.step.duration)
              ++ entryReports (s.lane n).config.policy (.entryEnd n c.entry.serial .cut (passesDone c))
              ++ [.laneState n .safe (.timeout c.entry.serial c.index)])))

/-- TRIGGER_EDGE, once the pin can have stood at the new level for 0.2 µs: the filtered level of the input follows, and the edge goes to
every lane that names the input, each of which takes it as an event of its own; nothing else changes (R94, R95). An edge from a level that
the input does not have, or sooner, or before the filter has adopted a level, is none (log entries 1 and 7). -/
def Obligations.TriggerEdgeGoesToItsLanes : Prop :=
  ∀ (s : State) (i : TrigNo) (e : Edge),
    let before : Level := match e with
      | .rising => .low
      | .falling => .high
    let after : Level := match e with
      | .rising => .high
      | .falling => .low
    (s.phase ≠ .held → (s.trigger i).adopted = true → (s.trigger i).since + 2 ≤ s.now → (s.trigger i).level = before →
      exec (.triggerEdge i e) s = .next
        { s with triggers := s.triggers.set i ⟨after, true, s.now⟩,
                 setOff := s.setOff ++ ((List.finRange 4).filter fun n => (s.lane n).config.trigger == some i).map (.edge · e) })
    ∧ (s.phase = .held ∨ (s.trigger i).adopted = false ∨ s.now < (s.trigger i).since + 2 ∨ (s.trigger i).level = after →
      exec (.triggerEdge i e) s = .next s)

/-- Each block takes what has been set off as an event of its own. An edge: a lane whose trigger edge field is of its direction or BOTH,
with an EDGE step past its blanking, ends it with outcome EDGE and the whole ticks elapsed (R95, Table 6-1). A sync edge: an ARMED lane
begins its queue head's first step and sends LANE_STATE with cause SYNC (R125). A cause of safe hold: a lane neither OFF nor in SAFE
enters SAFE (R10, R130, R131, R136, R138). A report: it is admitted, with the count of those lost before it, or lost and counted (R152).
In any other condition nothing happens. -/
def Obligations.BlocksTakeWhatIsSetOff : Prop :=
  ∀ (s : State) (n : LaneNo),
    (∀ (e : Edge) (r : StepRun) (c : Current), (s.lane n).run = some r → (s.lane n).current = some c →
      let counts : Prop := ((s.lane n).config.edge = .rising ∧ e = .rising) ∨ ((s.lane n).config.edge = .falling ∧ e = .falling)
        ∨ (s.lane n).config.edge = .both
      (counts → r.step.advance = .edge → r.pastBlanking = true →
        BoundaryTaken n c .edge ((s.now - r.startedAt) / 2 ^ (s.lane n).config.tickExp) false s (s.take (.edge n e)))
      ∧ (¬ counts ∨ r.step.advance ≠ .edge ∨ r.pastBlanking = false → s.take (.edge n e) = s))
    ∧ (∀ e : Edge, (s.lane n).run = none → s.take (.edge n e) = s)
    ∧ (∀ e rest st, (s.lane n).state = .armed → (s.lane n).queue = e :: rest → s.stepAt ⟨e, 0, 1, false⟩ = some st →
      let t := s.take (.syncEdge n)
      t.lane n = begun { s.lane n with queue := rest } ⟨e, 0, 1, false⟩ st s.now ∧ Applied n st.active s t
        ∧ OnlyLane n s t ∧ SlotsKept s t ∧ t.faultN = s.faultN
        ∧ t.setOff = s.setOff ++ toFollowers s n ++ sent [.laneState n .running .sync])
    ∧ ((s.lane n).state ≠ .armed → s.take (.syncEdge n) = s)
    ∧ (∀ c : SafeCause, ((s.lane n).state ≠ .off → (s.lane n).state ≠ .safe → EntersSafe n c s (s.take (.safe n c)))
      ∧ ((s.lane n).state = .off ∨ (s.lane n).state = .safe → s.take (.safe n c) = s))
    ∧ ∀ (r : Report) (rs : List Report), s.take (.reports (r :: rs)) =
        { s with tx := if s.held < 6 then
            { queue := s.tx.queue ++ [.report s.tx.loss r], sending := some (s.tx.sending.getD ⟨s.now, s.settings⟩), loss := 0 }
          else { s.tx with loss := min (s.tx.loss + 1) 255 } }

/-- A row that begins a step of a lane sends the boundary event of that lane to its followers, and a follower that takes it with a FOLLOW
step past its blanking ends that step with outcome FOLLOW and the whole ticks elapsed, by its own boundary; in any other condition it does
nothing (R89, R99, R100, Table 6-3). The row here is STEP_END_TIMER, of a lane RUNNING whose PLAY entry goes on to its next step. -/
def Obligations.LeaderBoundaryEndsAFollowStep : Prop :=
  ∀ (s : State) (n m : LaneNo), (s.lane m).config.leader = some n → m ≠ n →
    (∀ (r : StepRun) (c : Current) (slot : SlotNo) (repeats : Nat) (st : Step),
      (s.lane n).run = some r → (s.lane n).current = some c → (s.lane n).state = .running →
      r.step.advance = .time → r.startedAt + r.step.duration * 2 ^ (s.lane n).config.tickExp ≤ s.now →
      c.entry.body = .play slot repeats → (s.slot slot).steps[c.index + 1]? = some st →
      ∃ t standing, exec (.stepEndTimer n) s = .next t ∧ t.lane m = s.lane m ∧ t.now = s.now
        ∧ (SetOff.leaderBoundary m, standing) ∈ takeable [] t.setOff
        ∧ ∀ (f : StepRun) (d : Current), (s.lane m).run = some f → (s.lane m).current = some d →
          f.step.advance = .follow → f.pastBlanking = true →
          BoundaryTaken m d .follow ((s.now - f.startedAt) / 2 ^ (s.lane m).config.tickExp) false { t with setOff := standing }
            (State.take { t with setOff := standing } (.leaderBoundary m)))
    ∧ (∀ (f : StepRun) (d : Current), (s.lane m).run = some f → (s.lane m).current = some d →
      f.step.advance = .follow → f.pastBlanking = true →
      BoundaryTaken m d .follow ((s.now - f.startedAt) / 2 ^ (s.lane m).config.tickExp) false s (s.take (.leaderBoundary m)))
    ∧ ((∀ r, (s.lane m).run = some r → r.step.advance ≠ .follow ∨ r.pastBlanking = false) → s.take (.leaderBoundary m) = s)

/-! ### Intervening commands (chapter 7) -/

/-- PAUSE and RESUME by the lane's state (R110, R112). A PAUSED lane that resumes takes stages 6 and 7 in the event of the command, and
sends no report. -/
def Obligations.PauseAndResumeByLaneState : Prop :=
  ∀ (s : State) (x : Execution) (n : LaneNo),
    (Awaited s x (.pause n) →
      ((s.lane n).state = .running → exec (.pause n) s = .next (answered
        (s.updLane n fun r => { r with state := .pausing }) x ⟨.ok, .laneState .pausing, none⟩))
      ∧ ((s.lane n).state = .starved → exec (.pause n) s = .next (answered
        (s.updLane n fun r => { r with state := .paused }) x ⟨.ok, .laneState .paused, none⟩))
      ∧ ((s.lane n).state = .pausing ∨ (s.lane n).state = .paused → exec (.pause n) s = .next (answered s x
        ⟨.ok, .laneState (s.lane n).state, none⟩))
      ∧ ((s.lane n).state ∈ [LaneState.off, .idle, .armed, .stopping, .safe] → exec (.pause n) s = .next (answered s x
        ⟨.wrongState, .laneState (s.lane n).state, none⟩)))
    ∧ (Awaited s x (.resume n) →
      ((s.lane n).state = .pausing → exec (.resume n) s = .next (answered
        (s.updLane n fun r => { r with state := .running }) x ⟨.ok, .laneState .running, none⟩))
      ∧ ((s.lane n).state = .paused →
        ∃ t, exec (.resume n) s = .next (answered t x ⟨.ok, .laneState (t.lane n).state, none⟩) ∧ SlotsKept s t
          ∧ (∀ c st, (s.lane n).current = some c → s.stepAt c = some st → Begins n (s.lane n) c st [] s t)
          ∧ ((s.lane n).current = none → Goes n (s.lane n) [] true s t))
      ∧ ((s.lane n).state ≠ .pausing → (s.lane n).state ≠ .paused → exec (.resume n) s = .next (answered s x
        ⟨.wrongState, .laneState (s.lane n).state, none⟩)))

/-- STOP: its two checks in their order; then the queue is discarded and the lane acts by its mode and state. With mode BOUNDARY a step in
progress goes on to its end; with mode NOW the step and the entry are cut, the rest set is applied and the lane becomes IDLE, and in ARMED
no line changes (R114, R115, R116). -/
def Obligations.StopByModeAndLaneState : Prop :=
  ∀ (s : State) (x : Execution) (n : LaneNo) (mode : Byte), Awaited s x (.stop n mode) →
    let r := { s.lane n with queue := [] }
    let accepted (st : LaneState) (t : State) : Prop :=
      exec (.stop n mode) s = .next (answered t x ⟨.ok, .discarded (s.lane n).queue.length st, none⟩)
    (1 < mode.toNat → exec (.stop n mode) s = .next (answered s x ⟨.badValue, .discarded 0 (s.lane n).state, none⟩))
    ∧ (mode.toNat ≤ 1 → (s.lane n).state = .off ∨ (s.lane n).state = .idle ∨ (s.lane n).state = .safe →
      exec (.stop n mode) s = .next (answered s x ⟨.wrongState, .discarded 0 (s.lane n).state, none⟩))
    ∧ (mode = 0 →
      ((s.lane n).state ∈ [LaneState.running, .pausing, .stopping] → ∃ t, accepted .stopping t
        ∧ Holds n { r with state := .stopping } [] s t ∧ Released (queuedUses (s.lane n)) s t)
      ∧ ((s.lane n).state = .armed → ∃ t, accepted .idle t
        ∧ Holds n { r with state := .idle } [] s t ∧ Released (queuedUses (s.lane n)) s t)
      ∧ ((s.lane n).state = .starved → ∃ t, accepted .idle t
        ∧ Rests n { r with state := .idle } [] s t ∧ Released (queuedUses (s.lane n)) s t)
      ∧ ((s.lane n).state = .paused → ∃ t, accepted .idle t
        ∧ Rests n { r with state := .idle, current := none }
            (match (s.lane n).current with
              | some c => entryReports r.config.policy (.entryEnd n c.entry.serial .stopped (passesDone c))
              | none => []) s t
        ∧ Released (fun i => uses i (s.lane n)) s t))
    ∧ (mode = 1 →
      ((s.lane n).state = .armed → ∃ t, accepted .idle t
        ∧ Holds n { r with state := .idle } [] s t ∧ Released (queuedUses (s.lane n)) s t)
      ∧ ((s.lane n).state ∈ [LaneState.running, .starved, .pausing, .paused, .stopping] → ∃ t, accepted .idle t
        ∧ Rests n { r with state := .idle, current := none, run := none } (cutReports s n) s t
        ∧ Released (fun i => uses i (s.lane n)) s t))

/-- BREAK: its checks in their order; a current PLAY entry is marked, and nothing else changes (R118). -/
def Obligations.BreakMarksThePlayEntry : Prop :=
  ∀ (s : State) (x : Execution) (n : LaneNo), Awaited s x (.breakPass n) →
    ((s.lane n).current = none →
      exec (.breakPass n) s = .next (answered s x ⟨.wrongState, .marked (s.lane n).state 0, none⟩))
    ∧ (∀ serial st index pass mark, (s.lane n).current = some ⟨⟨serial, .step st⟩, index, pass, mark⟩ →
      exec (.breakPass n) s = .next (answered s x ⟨.wrongEntry, .marked (s.lane n).state serial, none⟩))
    ∧ ∀ serial slot repeats index pass mark, (s.lane n).current = some ⟨⟨serial, .play slot repeats⟩, index, pass, mark⟩ →
      exec (.breakPass n) s = .next (answered
        (s.updLane n fun r => { r with current := some ⟨⟨serial, .play slot repeats⟩, index, pass, true⟩ }) x
        ⟨.ok, .marked (s.lane n).state serial, none⟩)

/-- AMEND: its five checks in their order; accepted, a new d not above the elapsed ticks ends the step at once with outcome
AMENDED, and a longer one moves the step's timer and changes nothing else (R120). -/
def Obligations.AmendChecksAndEffect : Prop :=
  ∀ (s : State) (x : Execution) (n : LaneNo) (serial d : Half), Awaited s x (.amend n serial d) →
    let refuse (code : ResultCode) : Prop :=
      exec (.amend n serial d) s = .next (answered s x ⟨code, .laneState (s.lane n).state, none⟩)
    ((s.lane n).state ∉ [LaneState.running, .pausing, .stopping] → refuse .wrongState)
    ∧ ((s.lane n).state ∈ [LaneState.running, .pausing, .stopping] →
      ∀ (c : Current) (r : StepRun), (s.lane n).current = some c → (s.lane n).run = some r →
      let tooShort : Prop := d.toNat * 2 ^ (s.lane n).config.tickExp ≤ (s.lane n).config.guard
        ∨ (r.step.advance ≠ .time ∧ d.toNat ≤ (s.lane n).config.blanking)
      let ticks := (s.now - r.startedAt) / 2 ^ (s.lane n).config.tickExp
      (d = 0 → refuse .badValue)
      ∧ (d ≠ 0 → (∀ slot repeats, c.entry.body = .play slot repeats → refuse .wrongEntry)
      ∧ (∀ st, c.entry.body = .step st → (c.entry.serial ≠ serial → refuse .stale)
      ∧ (c.entry.serial = serial → (tooShort → refuse .tooShort)
      ∧ (¬ tooShort →
        (ticks < d.toNat → exec (.amend n serial d) s = .next (answered
          (s.updLane n fun y => { y with run := some { r with step := { r.step with duration := d.toNat }, amended := true } }) x
          ⟨.ok, .laneState (s.lane n).state, none⟩))
        ∧ (d.toNat ≤ ticks → ∃ t, exec (.amend n serial d) s = .next (answered t x ⟨.ok, .laneState (t.lane n).state, none⟩)
          ∧ BoundaryTaken n c .amended ticks true s t))))))

/-- FLUSH: the queue is discarded, an ARMED lane becomes IDLE, and the current entry and the lines stay as they are (R122). -/
def Obligations.FlushByLaneState : Prop :=
  ∀ (s : State) (x : Execution) (n : LaneNo), Awaited s x (.flush n) →
    ((s.lane n).state = .off ∨ (s.lane n).state = .safe →
      exec (.flush n) s = .next (answered s x ⟨.wrongState, .discarded 0 (s.lane n).state, none⟩))
    ∧ ((s.lane n).state ≠ .off → (s.lane n).state ≠ .safe →
      let st := if (s.lane n).state = .armed then LaneState.idle else (s.lane n).state
      ∃ t, exec (.flush n) s = .next (answered t x ⟨.ok, .discarded (s.lane n).queue.length st, none⟩)
        ∧ Holds n { s.lane n with queue := [], state := st } [] s t ∧ Released (queuedUses (s.lane n)) s t)

/-- PULSE_SYNC drives SYNC_N low for 20 base periods, or is refused BUSY while a pulse is driven; SYNC_PULSE_EXPIRY releases the
line; and the filtered level of SYNC_N rising, which the line can do once this part has let it go for 0.2 µs, changes nothing but itself
(R124, R127, log entry 7). That includes the very instant at which this part begins to pull it low, with all 20 base periods left (log entry
9). Sooner, or once it has been pulled low for a base period, there is no such event (log entry 1). -/
def Obligations.SyncDriveRunsItsPulse : Prop :=
  ∀ s : State,
    (∀ x, Awaited s x .pulseSync → s.sync.drive = .idle → exec .pulseSync s = .next (answered
      { s with sync := { s.sync with drive := .driving 20 } } x ⟨.ok, .none, none⟩))
    ∧ (∀ x r, Awaited s x .pulseSync → s.sync.drive = .driving r →
      exec .pulseSync s = .next (answered s x ⟨.busy, .none, none⟩))
    ∧ (s.sync.drive = .driving 0 →
      exec .syncPulseExpiry s = .next { s with sync := { s.sync with drive := .idle, releasedAt := s.now } })
    ∧ (s.phase ≠ .held → s.sync.adopted = true → s.sync.level = .low → s.sync.since + 2 ≤ s.now → s.sync.releasedAt + 2 ≤ s.now →
      s.sync.drive = .idle ∨ s.sync.drive = .driving 20 →
      exec .syncLowToHigh s = .next { s with sync := { s.sync with level := .high, since := s.now } })
    ∧ (s.phase = .held ∨ s.sync.adopted = false ∨ s.sync.level = .high ∨ s.now < s.sync.since + 2 ∨ s.now < s.sync.releasedAt + 2
        ∨ (∃ r, s.sync.drive = .driving r ∧ r ≠ 20) → exec .syncLowToHigh s = .next s)

/-- SYNC_EDGE, once the line can have stood low for 0.2 µs: the filtered level falls, and the edge goes to every ARMED lane, each of which
takes it as an event of its own; nothing else changes (R124, R125). From a low level, sooner, or before the filter has adopted a level,
there is none (log entries 1 and 7). -/
def Obligations.SyncEdgeGoesToArmedLanes : Prop :=
  ∀ s : State,
    (s.phase ≠ .held → s.sync.adopted = true → s.sync.level = .high → s.sync.since + 2 ≤ s.now →
      exec .syncEdge s = .next
        { s with sync := { s.sync with level := .low, since := s.now },
                 setOff := s.setOff ++ ((List.finRange 4).filter fun n => (s.lane n).state == .armed).map .syncEdge })
    ∧ (s.phase = .held ∨ s.sync.adopted = false ∨ s.sync.level = .low ∨ s.now < s.sync.since + 2 → exec .syncEdge s = .next s)

/-! ### Guard, interlock and safe hold (chapters 1 and 8) -/

/-- GUARD_EXPIRY, when a line has been PENDING for the guard interval of its owner: with its partner ACTIVE the activation is withheld,
the line becomes INACTIVE and an interlock block goes to the owner, which takes it as an event of its own; otherwise the line becomes
ACTIVE. Nothing else changes (R7, R8, R10). -/
def Obligations.GuardExpiryActivatesOrWithholds : Prop :=
  ∀ (s : State) (l : LineNo) (n : LaneNo) (since : Nat), (s.line l).state = .pending since → (s.line l).owner = some n →
    since + (s.lane n).config.guard ≤ s.now →
    ((∀ p, s.partner l = some p → (s.line p).state ≠ .active) →
      exec (.guardExpiry l) s = .next (s.updLine l fun r => { r with state := .active }))
    ∧ ∀ p, s.partner l = some p → (s.line p).state = .active →
      exec (.guardExpiry l) s = .next
        { s.updLine l fun r => { r with state := .inactive } with setOff := s.setOff ++ [.safe n (.interlock l p)] }

/-- KILL_ASSERTION after start-up, once the pin can have been low for 1 µs, sends its notice and goes to every lane that owns lines and is
not in SAFE, each of which takes it as an event of its own; KILL_RELEASE sends its notice and changes no lane. Before start-up neither
does more than change the filtered level (R135, R136, R137). Sooner neither is an event (log entries 1 and 7). -/
def Obligations.KillInputGoesToItsLanes : Prop :=
  ∀ s : State,
    (s.phase ≠ .held → s.kill.adopted = true → s.kill.since + 10 ≤ s.now →
      (s.kill.asserted = false → exec .killAssertion s = .next
        { s with kill := ⟨true, true, s.now⟩,
                 setOff := s.setOff ++ if s.phase = .started
                   then .reports [.notice .killAsserted] :: (reached s).map (.safe · .kill) else [] })
      ∧ (s.kill.asserted = true → exec .killRelease s = .next
        { s with kill := ⟨false, true, s.now⟩,
                 setOff := s.setOff ++ if s.phase = .started then [.reports [.notice .killReleased]] else [] }))
    ∧ (s.now < s.kill.since + 10 → exec .killAssertion s = .next s ∧ exec .killRelease s = .next s)

/-- KEEPALIVE_EXPIRY, when the window has run out: the latch is set, the notice is sent, and the expiry goes to every lane that owns lines
and is not in SAFE, each of which takes it as an event of its own (R138, R153). -/
def Obligations.KeepaliveExpiryGoesToItsLanes : Prop :=
  ∀ s : State, s.keepalive.window ≠ 0 → s.keepalive.latch = false → s.keepalive.remaining = 0 →
    exec .keepaliveExpiry s = .next
      { s with keepalive := { s.keepalive with latch := true },
               setOff := s.setOff ++ .reports [.notice .keepaliveExpired] :: (reached s).map (.safe · .keepalive) }

/-- ABORT: an empty lane set is refused; otherwise each named lane neither OFF nor SAFE enters SAFE, in ascending order, without a
LANE_STATE; their reports go out in that order, and the reply carries the lanes it took (R139, R173). -/
def Obligations.AbortTakesItsLanesToSafe : Prop :=
  ∀ (s : State) (x : Execution) (lanes : LaneSet), Awaited s x (.abort lanes) →
    (lanes = 0 → exec (.abort lanes) s = .next (answered s x ⟨.badValue, .aborted 0 s.laneStates, none⟩))
    ∧ (lanes ≠ 0 →
      let ns := (List.finRange 4).filter fun n => laneIn lanes n && (s.lane n).state != .off && (s.lane n).state != .safe
      let reports := ns.flatMap (safeReports s · .abort)
      ∃ t set, exec (.abort lanes) s = .next (answered t x ⟨.ok, .aborted set t.laneStates, none⟩)
        ∧ (∀ n, laneIn set n = true ↔ n ∈ ns)
        ∧ t = { s with lanes := t.lanes, lines := t.lines, slots := t.slots, faultN := t.faultN, setOff := t.setOff }
        ∧ InSafe ns s t ∧ t.setOff = s.setOff ++ if reports = [] then [] else [.reports reports])

/-- CLEAR_FAULT: its two checks in their order; accepted, the lane's lines go INACTIVE, the lane is IDLE with its rest set
applied, and FAULT_N stays asserted only for another lane in SAFE (R18, R140). -/
def Obligations.ClearFaultReleasesALane : Prop :=
  ∀ (s : State) (x : Execution) (n : LaneNo), Awaited s x (.clearFault n) →
    ((s.lane n).state ≠ .safe →
      exec (.clearFault n) s = .next (answered s x ⟨.wrongState, .laneState (s.lane n).state, none⟩))
    ∧ ((s.lane n).state = .safe → s.kill.asserted = true →
      exec (.clearFault n) s = .next (answered s x ⟨.killActive, .laneState .safe, none⟩))
    ∧ ((s.lane n).state = .safe → s.kill.asserted = false →
      ∃ t, exec (.clearFault n) s = .next (answered t x ⟨.ok, .laneState .idle, none⟩)
        ∧ t = { s with lanes := t.lanes, lines := t.lines, faultN := t.faultN }
        ∧ t.lane n = { s.lane n with state := .idle }
        ∧ (∀ m, m ≠ n → t.lane m = s.lane m)
        ∧ (∀ l, t.line l = if (s.line l).owner = some n then
            { s.line l with state := if lineIn (s.lane n).config.restSet l = true then .pending s.now else .inactive }
          else s.line l)
        ∧ (t.faultN = true ↔ ∃ m, m ≠ n ∧ (s.lane m).state = .safe))

/-- FILTER_LEVEL_ADOPTED: the first level an input holds for the time of its filter after a pin reset becomes its filtered level, without
an edge; but KILL_N adopting its asserted level after start-up is a kill assertion (R94, R124, R135, R136). That later ones, and one
sooner than that after the release, are no adoption, is the model's choice (log entries 1 and 7). -/
def Obligations.FilterAdoptsALevel : Prop :=
  ∀ (s : State) (v : Level), s.phase ≠ .held →
    (∀ i, exec (.filterLevelAdopted (.trigger i) v) s = .next
      (if (s.trigger i).adopted = true ∨ s.now < (s.trigger i).since + 2 then s
        else { s with triggers := s.triggers.set i ⟨v, true, s.now⟩ }))
    ∧ (s.sync.adopted = true ∨ s.now < s.sync.since + 2 → exec (.filterLevelAdopted .syncN v) s = .next s)
    ∧ (v = .high → s.now < s.sync.releasedAt + 2 ∨ (∃ r, s.sync.drive = .driving r ∧ r ≠ 20) →
      exec (.filterLevelAdopted .syncN v) s = .next s)
    ∧ (s.sync.adopted = false → s.sync.since + 2 ≤ s.now →
      v = .low ∨ (s.sync.releasedAt + 2 ≤ s.now ∧ (s.sync.drive = .idle ∨ s.sync.drive = .driving 20)) →
      exec (.filterLevelAdopted .syncN v) s = .next { s with sync := { s.sync with level := v, adopted := true, since := s.now } })
    ∧ (s.kill.adopted = true ∨ s.now < s.kill.since + 10 → exec (.filterLevelAdopted .killN v) s = .next s)
    ∧ (s.kill.adopted = false → s.kill.since + 10 ≤ s.now → exec (.filterLevelAdopted .killN v) s = .next
        { s with kill := ⟨decide (v = .low), true, s.now⟩,
                 setOff := s.setOff ++ if v = .low ∧ s.phase = .started
                   then .reports [.notice .killAsserted] :: (reached s).map (.safe · .kill) else [] })

/-- The pins show the state: every line is at high impedance in pin reset and otherwise as Table 1-2 gives for its state and
polarity, FAULT_N is low while asserted, SYNC_N is pulled low while a pulse is driven, and TXD idles high (R3, R18, R124, R151). -/
def Obligations.OutputPinsShowTheState : Prop :=
  ∀ (s : State) (l : LineNo),
    (s.phase = .held → s.linePin l = .highZ)
    ∧ (s.phase ≠ .held →
      s.linePin l = (match (s.line l).state, (s.line l).polarity with
        | .float, _ => .highZ
        | .inactive, .activeHigh => .low
        | .inactive, .activeLow => .high
        | .pending _, .activeHigh => .low
        | .pending _, .activeLow => .high
        | .active, .activeHigh => .high
        | .active, .activeLow => .low))
    ∧ s.faultPin = (if s.faultN then .low else .high)
    ∧ (s.sync.drive = .idle → s.syncPin = .highZ)
    ∧ (∀ r, s.sync.drive = .driving r → s.syncPin = .low)
    ∧ (s.tx.queue = [] → s.txd = true)

/-- What TXD carries. During a transmission it shows, at each instant, the bit whose time has come of the characters of the message's
frame, back to back (R142, R151; that a bit lasts the ideal time of its rate is log entry 5): sync byte, length, kind, tag, payload, and
the CRC of R145. A reply carries the echoed kind, its result code and its fields, a report its lost-before count and its fields, as Tables
12-4, 12-6 and 12-7 lay them out (R144, R174, R177, R178, R179). -/
def Obligations.MessagesAreLaidOut : Prop :=
  (∀ (s : State) (m : Message) (rest : List Message) (x : Transmission), s.tx.queue = m :: rest → s.tx.sending = some x →
    s.txd = ((m.frame.bytes.flatMap (levels x.settings.parity))[(s.now - x.startedAt) * x.settings.rate.bps / 10000000]?).getD true)
  ∧ (∀ f : Frame, f.bytes = [0xC5, BitVec.ofNat 8 (f.payload.length + 2), f.kind, f.tag] ++ f.payload
      ++ Half.bytes (crc (BitVec.ofNat 8 (f.payload.length + 2) :: f.kind :: f.tag :: f.payload)))
  ∧ crc [0x31, 0x32, 0x33, 0x34, 0x35, 0x36, 0x37, 0x38, 0x39] = 0x29B1
  ∧ (∀ h : Half, Half.bytes h = [h.extractLsb' 8 8, h.extractLsb' 0 8])
  ∧ (∀ n : Nat, twoBytes n = Half.bytes (BitVec.ofNat 16 (min n 65535)))
  ∧ (∀ x : LineSet, LineSet.bytes x = [x.extractLsb' 16 8, x.extractLsb' 8 8, x.extractLsb' 0 8])
  ∧ (∀ kind tag a, Message.frame (.reply kind tag a) = ⟨0x80, tag, [kind, ResultCode.value a.code] ++ a.fields.bytes⟩)
  ∧ (∀ lost r, Message.frame (.report lost r) = ⟨(match r with
      | .stepEnd .. => 0x81
      | .entryEnd .. => 0x82
      | .laneState .. => 0x83
      | .notice .. => 0x84), 0, byteOf lost :: r.fields⟩)
  ∧ (∀ r : Report, r.fields = match r with
    | .stepEnd n serial index pass o ticks =>
      [byteOf n.val] ++ Half.bytes serial ++ [byteOf index] ++ twoBytes pass ++ [o.code] ++ twoBytes ticks
    | .entryEnd n serial o passes => [byteOf n.val] ++ Half.bytes serial ++ [o.code] ++ twoBytes passes
    | .laneState n st (.interlock a p) => [byteOf n.val, st.code, 7, byteOf a.val, byteOf p.val]
    | .laneState n st (.timeout serial index) => [byteOf n.val, st.code, 8] ++ Half.bytes serial ++ [byteOf index]
    | .laneState n st cause => [byteOf n.val, st.code, cause.code]
    | .notice k => [k.code])
  ∧ (∀ f : ReplyFields, f.bytes = match f with
    | .none => []
    | .identity => [0x6B, 0x21, 0x04, 0x24, 1, 24, 4, 32, 0x02, 0x00, 16]
    | .status c => c.bytes
    | .link settings window => [settings.rate.code, settings.parity.code] ++ twoBytes window
    | .line l => [byteOf l.val]
    | .laneState st => [st.code]
    | .enqueued first count st detail => Half.bytes first ++ [byteOf count, st.code, byteOf detail]
    | .started failing states => [orNone failing] ++ states.toList.map LaneState.code
    | .slotSpace st free => [st.code] ++ twoBytes free
    | .slotFilled st filled => [st.code, byteOf filled]
    | .slotUse count free => [byteOf count] ++ twoBytes free
    | .discarded count st => [byteOf count, st.code]
    | .marked st serial => [st.code] ++ Half.bytes serial
    | .aborted lanes states => [lanes.setWidth 8] ++ states.toList.map LaneState.code)
  ∧ (∀ c : Contents, c.bytes = match c with
    | .part states kill latch loss space slots =>
      [0] ++ states.toList.map LaneState.code ++ [flagByte kill, flagByte latch, byteOf loss] ++ twoBytes space ++ [byteOf slots]
    | .lane n r st length next current =>
      [1, byteOf n.val] ++ LineSet.bytes r.lines ++ [byteOf r.tickExp, byteOf r.guard, byteOf r.blanking, orNone r.trigger, r.edge.code,
        orNone r.leader, r.endAction.code, r.timeoutAction.code, r.policy.code] ++ LineSet.bytes r.restSet
        ++ [st.code, byteOf length] ++ Half.bytes next
        ++ (match current with
          | some v => [1] ++ Half.bytes v.serial ++ [flagByte v.isPlay, byteOf v.index] ++ twoBytes v.pass ++ twoBytes v.elapsed
              ++ [flagByte v.breakPending]
          | none => List.replicate 10 0)
    | .lines views => [2] ++ views.flatMap fun v =>
      [orNone v.record.owner, v.record.polarity.code, v.record.safeLevel.code, orNone v.record.partner, v.record.state.code, byteOf v.waited]
    | .link k settings window =>
      [3] ++ [k.framing, k.parity, k.crc, k.length, k.gap, k.dropped].flatMap twoBytes ++ [settings.rate.code, settings.parity.code]
        ++ twoBytes window
    | .seq i st declared filled count => [4, byteOf i.val, st.code, byteOf declared, byteOf filled, byteOf count])

/-- The rates and codes of Table 9-1, the codes of Table 12-1 by which replies and reports name things (the entry kind of GET_STATUS is the flag
byte, as the kind byte of an entry is), the result codes of Table 12-5, the flag byte, and 0xFF for none (R142, R174, R175, R177). -/
def Obligations.NamesHaveTheirCodes : Prop :=
  [ResultCode.ok, .badKind, .badLength, .badValue, .badLane, .wrongState, .notOwned, .lineTaken, .interlock, .tooShort, .queueFull, .empty,
    .noSpace, .noSequence, .seqOpen, .inUse, .badOffset, .stale, .wrongEntry, .killActive, .leaderInvalid, .busy, .inboundFull].map
      ResultCode.value = (List.range 23).map (BitVec.ofNat 8)
  ∧ [LaneState.off, .idle, .armed, .running, .starved, .pausing, .paused, .stopping, .safe].map LaneState.code = [0, 1, 2, 3, 4, 5, 6, 7, 8]
  ∧ (∀ since, [LineState.float, .inactive, .pending since, .active].map LineState.code = [0, 1, 2, 3])
  ∧ [Polarity.activeHigh, .activeLow].map Polarity.code = [0, 1] ∧ [SafeLevel.inactive, .float].map SafeLevel.code = [0, 1]
  ∧ [TriggerEdge.rising, .falling, .both].map TriggerEdge.code = [0, 1, 2] ∧ [EndAction.hold, .rest].map EndAction.code = [0, 1]
  ∧ [TimeoutAction.note, .fault].map TimeoutAction.code = [0, 1] ∧ [Policy.none, .entries, .steps].map Policy.code = [0, 1, 2]
  ∧ [Parity.none, .even, .odd].map Parity.code = [0, 1, 2] ∧ [SlotState.free, .opened, .sealed].map SlotState.code = [0, 1, 2]
  ∧ [Rate.r9600, .r57600, .r115200, .r460800, .r1000000, .r2000000].map Rate.code = [0, 1, 2, 3, 4, 5]
  ∧ [Rate.r9600, .r57600, .r115200, .r460800, .r1000000, .r2000000].map Rate.bps = [9600, 57600, 115200, 460800, 1000000, 2000000]
  ∧ [StepOutcome.time, .edge, .follow, .timeout, .amended, .cut].map StepOutcome.code = [0, 1, 2, 3, 4, 5]
  ∧ [EntryOutcome.done, .broken, .stopped, .cut].map EntryOutcome.code = [0, 1, 2, 3]
  ∧ [Cause.sync, .starved, .completed, .paused, .stopped, .kill, .keepalive].map Cause.code = [0, 1, 2, 3, 4, 5, 6]
  ∧ (∀ a p : LineNo, Cause.code (.interlock a p) = 7) ∧ (∀ (serial : Half) (index : Nat), Cause.code (.timeout serial index) = 8)
  ∧ flagByte false = 0 ∧ flagByte true = 1
  ∧ (∀ r, (RawEntry.step r).bytes.head? = some (flagByte false)) ∧ (∀ id repeats, (RawEntry.play id repeats).bytes.head? = some (flagByte true))
  ∧ [NoticeKind.resetDone, .killAsserted, .killReleased, .keepaliveExpired].map NoticeKind.code = [0, 1, 2, 3]
  ∧ (∀ (n : LaneNo) (l : LineNo), orNone (some n) = BitVec.ofNat 8 n.val ∧ orNone (some l) = BitVec.ofNat 8 l.val
    ∧ orNone (none : Option LaneNo) = 0xFF ∧ orNone (none : Option LineNo) = 0xFF)
  ∧ ∀ n : Nat, n < 256 → (byteOf n).toNat = n

/-! ### The link (chapters 9 and 10) -/

/-- CHARACTER_RECEIVED: its checks and what the receiver does with the byte, hunting and in a frame; an error abandons the frame and is
counted by its kind; a character that began before RXD had been high for one bit time after a framing error is none, and the wait begins
again after it, or is over where its stop bit was high (R143, R146, R147, Table 9-3). The model's reading: the character that completes a
frame whose CRC matches is one event with VALID_FRAME (log entry 6), the levels of a refused character are those of RXD (log entry 7), a
start bit that is a glitch leaves the frame and its gap count as they are (log entry 13), a character ends with its stop bit, at the ideal
bit times (log entries 5 and 17), and the wait is judged at the settings now in force (log entry 19). -/
def Obligations.ReceiverResponses : Prop :=
  ∀ (s : State) (c : Character), s.phase ≠ .held →
    let parity := (s.rx.char.getD s.settings).parity
    let disagrees : Prop := (parity = .even ∧ c.parityBit ≠ oddOnes c.data) ∨ (parity = .odd ∧ c.parityBit = oddOnes c.data)
    let r := s.rx.counters
    let goes (y : Receiver) : Prop := exec (.characterReceived c) s = .next { s with rx := { y with char := none, quietFrom := none } }
    (c.startBit = true →
      (QuietFor s 0 → goes s.rx)
      ∧ (¬ QuietFor s 0 → exec (.characterReceived c) s = .next { s with rx := { s.rx with quietFrom := some s.now } }))
    ∧ (c.startBit = false → ¬ QuietFor s 1 →
      exec (.characterReceived c) s = .next { s with rx := { s.rx with quietFrom := if c.stopBit then none else some s.now } })
    ∧ (QuietFor s 1 → c.startBit = false → c.stopBit = false → exec (.characterReceived c) s = .next
      { s with rx := { s.rx with char := none, quietFrom := some s.now, state := .hunting,
                                 counters := { r with framing := min (r.framing + 1) 65535 } } })
    ∧ (QuietFor s 1 → c.startBit = false → c.stopBit = true →
      (disagrees → goes { s.rx with state := .hunting, counters := { r with parity := min (r.parity + 1) 65535 } })
      ∧ (¬ disagrees →
        (s.rx.state = .hunting → goes { s.rx with state := if c.data = 0xC5 then .inFrame [] 0 else .hunting })
        ∧ (∀ gap, s.rx.state = .inFrame [] gap →
          (c.data.toNat < 2 ∨ 242 < c.data.toNat →
            goes { s.rx with state := .hunting, counters := { r with length := min (r.length + 1) 65535 } })
          ∧ (2 ≤ c.data.toNat → c.data.toNat ≤ 242 → goes { s.rx with state := .inFrame [c.data] 0 }))
        ∧ ∀ (len : Byte) (rest : List Byte) (gap : Nat), s.rx.state = .inFrame (len :: rest) gap →
          2 ≤ len.toNat → len.toNat ≤ 242 →
          (rest.length + 1 < len.toNat + 2 → goes { s.rx with state := .inFrame (len :: rest ++ [c.data]) 0 })
          ∧ (rest.length + 1 = len.toNat + 2 →
            ((∀ f : Frame, f.wf = true → len :: rest ++ [c.data] ≠ f.body ++ Half.bytes (crc f.body)) →
              goes { s.rx with state := .hunting, counters := { r with crc := min (r.crc + 1) 65535 } })
            ∧ ∀ f : Frame, f.wf = true → len :: rest ++ [c.data] = f.body ++ Half.bytes (crc f.body) →
              exec (.characterReceived c) s = exec (.validFrame f) { s with rx := { s.rx with quietFrom := none } })))

/-- GAP_EXPIRY, when 20 character times have passed in a frame without a further character: the frame is abandoned and the gap counter
increments. The gap count makes 110 · 10,000,000 of one character time of 10 or 11 bits, and runs up by the bit rate times 110 / 10 or
110 / 11 in a base period (EmptyQueueLetsTimePass). START_BIT_RECOGNIZED fixes the settings of its character; after a framing error there is
none until one bit time has passed, and one that comes sooner begins the wait again (R143, R147, R155). The model's own: bit and character
times are the ideal ones of the rate (log entry 5), the bit time is counted from the last row that shows RXD low, no row telling when RXD
rises (log entries 6, 7 and 17), at the settings now in force (log entry 19). -/
def Obligations.GapAndStartBit : Prop :=
  ∀ s : State,
    (∀ buffer gap, s.rx.state = .inFrame buffer gap → s.rx.char = none → 20 * (110 * 10000000) ≤ gap →
      exec .gapExpiry s = .next
        { s with rx := { s.rx with
            state := .hunting,
            counters := { s.rx.counters with gap := min (s.rx.counters.gap + 1) 65535 } } })
    ∧ (s.phase ≠ .held → s.rx.char = none →
      (s.rx.quietFrom = none → exec .startBitRecognized s = .next { s with rx := { s.rx with char := some s.settings } })
      ∧ ∀ t, s.rx.quietFrom = some t →
        (10000000 ≤ (s.now - t) * s.settings.rate.bps →
          exec .startBitRecognized s = .next { s with rx := { s.rx with char := some s.settings, quietFrom := none } })
        ∧ ((s.now - t) * s.settings.rate.bps < 10000000 →
            exec .startBitRecognized s = .next { s with rx := { s.rx with quietFrom := some s.now } }))

/-- VALID_FRAME: the keepalive restarts with its latch clear, and the frame goes to the inbound queue, else is answered INBOUND_FULL, else
is dropped and counted; the receiver hunts again (R148, R153). After a framing error the frame must have had the time to be received (log
entry 6). -/
def Obligations.ValidFrameIsHandedOn : Prop :=
  ∀ (s : State) (f : Frame), s.phase ≠ .held → f.wf = true → QuietFor s (f.payload.length + 6) →
    let k : Keepalive := { s.keepalive with latch := false, remaining := s.keepalive.window * 100000 }
    let rx : Receiver := { s.rx with state := .hunting, char := none, quietFrom := none }
    (s.rx.inbound.length < 4 →
      exec (.validFrame f) s = .next { s with keepalive := k, rx := { rx with inbound := s.rx.inbound ++ [f] } })
    ∧ (4 ≤ s.rx.inbound.length → s.held < 8 →
      exec (.validFrame f) s = .next { s with keepalive := k, rx := rx, tx := { s.tx with
        queue := s.tx.queue ++ [.reply f.kind f.tag ⟨.inboundFull, .none, none⟩],
        sending := some (s.tx.sending.getD ⟨s.now, s.settings⟩) } })
    ∧ (4 ≤ s.rx.inbound.length → 8 ≤ s.held →
      exec (.validFrame f) s = .next
        { s with
          keepalive := k,
          rx := { rx with counters := { s.rx.counters with dropped := min (s.rx.counters.dropped + 1) 65535 } } })

/-- The general checks of a frame, in their order: the kind, the length of the payload, the lanes it names (R160). -/
def Obligations.GeneralChecksInOrder : Prop :=
  ∀ f : Frame,
    (f.kind = 0 ∨ 0x17 < f.kind.toNat → decodeFrame f = .error .badKind)
    ∧ (f.kind ∈ [0x01#8, 0x03, 0x05, 0x0F] → f.payload ≠ [] → decodeFrame f = .error .badLength)
    ∧ (∀ size, (f.kind, size) ∈ [(0x02#8, 2), (0x04, 4), (0x06, 3), (0x07, 2), (0x08, 1), (0x09, 16), (0x0B, 2), (0x0C, 2), (0x0E, 1),
        (0x10, 1), (0x11, 1), (0x12, 2), (0x13, 1), (0x14, 5), (0x15, 1), (0x16, 1), (0x17, 1)] → f.payload.length ≠ size →
      decodeFrame f = .error .badLength)
    ∧ (f.kind = 0x0A → (¬ ∃ lane count rest, f.payload = lane :: count :: rest ∧ 1 ≤ count.toNat ∧ count.toNat ≤ 8
        ∧ rest.length = 7 * count.toNat) → decodeFrame f = .error .badLength)
    ∧ (f.kind = 0x0D → (¬ ∃ id offset count rest, f.payload = id :: offset :: count :: rest ∧ 1 ≤ count.toNat ∧ count.toNat ≤ 32
        ∧ rest.length = 6 * count.toNat) → decodeFrame f = .error .badLength)
    ∧ (∀ lane rest, f.payload = lane :: rest → 3 < lane.toNat →
      (∀ size, (f.kind, size) ∈ [(0x09#8, 16), (0x10, 1), (0x11, 1), (0x12, 2), (0x13, 1), (0x14, 5), (0x15, 1), (0x17, 1)] →
        f.payload.length = size → decodeFrame f = .error .badLane)
      ∧ (f.kind = 0x0A → (∃ count tail, rest = count :: tail ∧ 1 ≤ count.toNat ∧ count.toNat ≤ 8 ∧ tail.length = 7 * count.toNat) →
        decodeFrame f = .error .badLane))
    ∧ (∀ set rest, f.payload = set :: rest → 15 < set.toNat →
      (f.kind = 0x0B ∧ f.payload.length = 2) ∨ (f.kind = 0x16 ∧ f.payload.length = 1) → decodeFrame f = .error .badLane)
    ∧ (∀ arg, f.kind = 0x02 → f.payload = [1, arg] → 3 < arg.toNat → decodeFrame f = .error .badLane)

/-- FRAME_TAKE: the inbound head is executed, with an outbound entry reserved; a frame that fails the general checks has its refusal at
once; the instants of its event and of its completion lie within the bound, and where is a free choice (log entry 3). COMMAND_COMPLETION:
the reply, with the kind and tag of its frame, joins the tail of the outbound queue behind every report sent before it, and the Command
Processor is idle (R157, R158, R159, R160, R161). A completion while the command's event is outstanding is no event (log entry 1). -/
def Obligations.FrameTakeAndCompletion : Prop :=
  ∀ s : State,
    (∀ (f : Frame) (rest : List Frame), s.phase = .started → s.proc = .idle → s.rx.inbound = f :: rest → s.tx.queue.length < 8 →
      ∃ t event completion, exec .frameTake s = .next t
        ∧ t = { s with
            rx := { s.rx with inbound := rest },
            proc := .executing ⟨f, (match decodeFrame f with
              | .ok _ => none
              | .error code => some ⟨code, .none, none⟩), event, completion⟩,
            choices := t.choices, draws := t.draws }
        ∧ t.held = s.held + 1
        ∧ s.now ≤ event ∧ event ≤ s.now + (if f.kind = 0x0D then 4000 else 500)
        ∧ s.now ≤ completion ∧ completion ≤ s.now + (if f.kind = 0x0D then 4000 else 500))
    ∧ ∀ x : Execution, s.proc = .executing x →
      (∀ a, x.answer = some a →
        let u := (offered s (inFlight s)).tx
        exec .commandCompletion s = .next
          { s with proc := .idle, setOff := s.setOff.filter fun e => e.carried.isEmpty,
                   tx := { u with
                     queue := u.queue ++ [.reply x.frame.kind x.frame.tag a],
                     sending := some (u.sending.getD ⟨s.now, s.settings⟩) } })
      ∧ (x.answer = none → exec .commandCompletion s = .next s)

/-- TRANSMISSION_END, when every bit of the head has been sent: it leaves the queue, the settings attached to it come into force,
and the next message begins at once at them (R151, R155). When that is, at the ideal bit time of the rate, is log entry 5. -/
def Obligations.TransmissionEndSendsTheNext : Prop :=
  ∀ (s : State) (m : Message) (rest : List Message) (x : Transmission), s.tx.queue = m :: rest → s.tx.sending = some x →
    (m.frame.payload.length + 6) * (if x.settings.parity = .none then 10 else 11) * 10000000 ≤ (s.now - x.startedAt) * x.settings.rate.bps →
    let settings := match m with
      | .reply _ _ a => a.change.getD s.settings
      | .report _ _ => s.settings
    exec .transmissionEnd s = .next
      { s with settings := settings,
               tx := { s.tx with queue := rest, sending := if rest = [] then none else some ⟨s.now, settings⟩ } }

/-! ### Encoding (chapter 12) -/

/-- Every command the link can carry is read out of its own frame again, with every operand at every value, and the frame is of a
length the link carries. -/
def Obligations.CommandFramesAreReadBack : Prop :=
  ∀ (c : Instr) (tag : Byte) (f : Frame), c.wf = true → c.frame tag = some f → decodeFrame f = .ok c ∧ f.wf = true

/-- The characters of a frame, received one after the other by a receiver that hunts, make the one event of the valid frame, at
every parity (R142 to R148; that the character that completes a frame and VALID_FRAME are one event is the model's reading, log
entry 6). -/
def Obligations.FrameCharactersMakeAValidFrame : Prop :=
  ∀ (s : State) (f : Frame), s.phase ≠ .held → s.rx.state = .hunting → s.rx.char = none → s.rx.quietFrom = none → f.wf = true →
    let character (b : Byte) : Character := ⟨false, b, (s.settings.parity.bit b).getD true, true⟩
    Host.Outcome.next (f.bytes.foldl (fun t b => match exec (.characterReceived (character b)) t with
        | .next u => u
        | _ => t) s) = exec (.validFrame f) s

/-! ### Invariants -/

/-- Every step keeps the line table sound: pairs agree, the lines of a pair are never both ACTIVE, an unowned line is FLOAT, and a lane in
OFF owns none; in IDLE and ARMED exactly the rest-set lines are PENDING or ACTIVE, but for one that an interlock block on its way to the
lane has held back; in SAFE every line is at its safe level (R2, R8, R10, R16, R30, R31, R32, R71, R129). -/
def Obligations.StepKeepsLinesSound : Prop := ∀ s t : State, LinesSound s → step s = .next t → LinesSound t

/-- Every step keeps the configuration records sound (R16, R27, R29, R30, Table 2-1). -/
def Obligations.StepKeepsConfigSound : Prop := ∀ s t : State, ConfigSound s → step s = .next t → ConfigSound t

/-- Every step keeps safe hold sound: a lane in SAFE holds nothing, FAULT_N is asserted exactly while a lane is in SAFE, and while
KILL_N is asserted every lane that owns lines is in SAFE, or the assertion is on its way to it (R18, R31, R129, R136). -/
def Obligations.StepKeepsSafeHoldSound : Prop := ∀ s t : State, SafeHoldSound s → step s = .next t → SafeHoldSound t

/-- Every step keeps the link sound: its queues keep their capacities, its counters their ranges, and a message is in transmission
exactly while the outbound queue is not empty (R149 to R153, R158). -/
def Obligations.StepKeepsLinkSound : Prop := ∀ s t : State, LinkSound s → step s = .next t → LinkSound t

/-- Every step keeps the library and the lanes in play sound: slots, the 512 steps, use counts, the lane states of Table 5-1,
queues of at most 16 entries with consecutive serials, and cursors within their slots (R41, R55, R56, R63, R64, R70). And with the
configuration records sound, every step that a queued or current entry plays, stored ones included, and the step in progress keep their
active set within the lane's lines and free of interlock pairs (R44). -/
def Obligations.StepKeepsPlaySound : Prop :=
  ∀ s t : State, PlaySound s → step s = .next t → PlaySound t ∧ (ConfigSound s → StepsLawful s → StepsLawful t)

/-- Every step keeps every time that the state holds, of lines PENDING, steps, a transmission, the release of RST_N, the filters, the sync
release and the framing error, from lying ahead of now (R6, R77, R94, R124, R135, R143, R151, R166). -/
def Obligations.StepKeepsTimesPast : Prop := ∀ s t : State, TimesPast s → step s = .next t → TimesPast t

/-- The machine right after reset meets every invariant. -/
def Obligations.ResetMeetsTheInvariants : Prop :=
  LinesSound State.reset ∧ ConfigSound State.reset ∧ SafeHoldSound State.reset ∧ LinkSound State.reset ∧ PlaySound State.reset
    ∧ StepsLawful State.reset ∧ TimesPast State.reset
end

