-- ==== Sys2Proof/Laws/State.lean ====
section
/-! SUPPORT. One lemma for each field of the state and each update of it, true by definition, so that no proof unfolds a record
update; and the readings of the state after each update. -/

namespace Sys2Proof.Machine

/-! ### updLane -/

@[simp] theorem updLane_now (s : State) (n : LaneNo) (f : LaneRec → LaneRec) :
    (s.updLane n f).now = s.now := rfl

@[simp] theorem updLane_phase (s : State) (n : LaneNo) (f : LaneRec → LaneRec) :
    (s.updLane n f).phase = s.phase := rfl

@[simp] theorem updLane_lines (s : State) (n : LaneNo) (f : LaneRec → LaneRec) :
    (s.updLane n f).lines = s.lines := rfl

@[simp] theorem updLane_faultN (s : State) (n : LaneNo) (f : LaneRec → LaneRec) :
    (s.updLane n f).faultN = s.faultN := rfl

@[simp] theorem updLane_slots (s : State) (n : LaneNo) (f : LaneRec → LaneRec) :
    (s.updLane n f).slots = s.slots := rfl

@[simp] theorem updLane_triggers (s : State) (n : LaneNo) (f : LaneRec → LaneRec) :
    (s.updLane n f).triggers = s.triggers := rfl

@[simp] theorem updLane_sync (s : State) (n : LaneNo) (f : LaneRec → LaneRec) :
    (s.updLane n f).sync = s.sync := rfl

@[simp] theorem updLane_kill (s : State) (n : LaneNo) (f : LaneRec → LaneRec) :
    (s.updLane n f).kill = s.kill := rfl

@[simp] theorem updLane_rx (s : State) (n : LaneNo) (f : LaneRec → LaneRec) :
    (s.updLane n f).rx = s.rx := rfl

@[simp] theorem updLane_settings (s : State) (n : LaneNo) (f : LaneRec → LaneRec) :
    (s.updLane n f).settings = s.settings := rfl

@[simp] theorem updLane_tx (s : State) (n : LaneNo) (f : LaneRec → LaneRec) :
    (s.updLane n f).tx = s.tx := rfl

@[simp] theorem updLane_keepalive (s : State) (n : LaneNo) (f : LaneRec → LaneRec) :
    (s.updLane n f).keepalive = s.keepalive := rfl

@[simp] theorem updLane_proc (s : State) (n : LaneNo) (f : LaneRec → LaneRec) :
    (s.updLane n f).proc = s.proc := rfl

@[simp] theorem updLane_setOff (s : State) (n : LaneNo) (f : LaneRec → LaneRec) :
    (s.updLane n f).setOff = s.setOff := rfl

@[simp] theorem updLane_pending (s : State) (n : LaneNo) (f : LaneRec → LaneRec) :
    (s.updLane n f).pending = s.pending := rfl

@[simp] theorem updLane_choices (s : State) (n : LaneNo) (f : LaneRec → LaneRec) :
    (s.updLane n f).choices = s.choices := rfl

@[simp] theorem updLane_draws (s : State) (n : LaneNo) (f : LaneRec → LaneRec) :
    (s.updLane n f).draws = s.draws := rfl

/-! ### updSlot -/

@[simp] theorem updSlot_now (s : State) (i : SlotNo) (f : Slot → Slot) :
    (s.updSlot i f).now = s.now := rfl

@[simp] theorem updSlot_phase (s : State) (i : SlotNo) (f : Slot → Slot) :
    (s.updSlot i f).phase = s.phase := rfl

@[simp] theorem updSlot_lines (s : State) (i : SlotNo) (f : Slot → Slot) :
    (s.updSlot i f).lines = s.lines := rfl

@[simp] theorem updSlot_faultN (s : State) (i : SlotNo) (f : Slot → Slot) :
    (s.updSlot i f).faultN = s.faultN := rfl

@[simp] theorem updSlot_lanes (s : State) (i : SlotNo) (f : Slot → Slot) :
    (s.updSlot i f).lanes = s.lanes := rfl

@[simp] theorem updSlot_triggers (s : State) (i : SlotNo) (f : Slot → Slot) :
    (s.updSlot i f).triggers = s.triggers := rfl

@[simp] theorem updSlot_sync (s : State) (i : SlotNo) (f : Slot → Slot) :
    (s.updSlot i f).sync = s.sync := rfl

@[simp] theorem updSlot_kill (s : State) (i : SlotNo) (f : Slot → Slot) :
    (s.updSlot i f).kill = s.kill := rfl

@[simp] theorem updSlot_rx (s : State) (i : SlotNo) (f : Slot → Slot) :
    (s.updSlot i f).rx = s.rx := rfl

@[simp] theorem updSlot_settings (s : State) (i : SlotNo) (f : Slot → Slot) :
    (s.updSlot i f).settings = s.settings := rfl

@[simp] theorem updSlot_tx (s : State) (i : SlotNo) (f : Slot → Slot) :
    (s.updSlot i f).tx = s.tx := rfl

@[simp] theorem updSlot_keepalive (s : State) (i : SlotNo) (f : Slot → Slot) :
    (s.updSlot i f).keepalive = s.keepalive := rfl

@[simp] theorem updSlot_proc (s : State) (i : SlotNo) (f : Slot → Slot) :
    (s.updSlot i f).proc = s.proc := rfl

@[simp] theorem updSlot_setOff (s : State) (i : SlotNo) (f : Slot → Slot) :
    (s.updSlot i f).setOff = s.setOff := rfl

@[simp] theorem updSlot_pending (s : State) (i : SlotNo) (f : Slot → Slot) :
    (s.updSlot i f).pending = s.pending := rfl

@[simp] theorem updSlot_choices (s : State) (i : SlotNo) (f : Slot → Slot) :
    (s.updSlot i f).choices = s.choices := rfl

@[simp] theorem updSlot_draws (s : State) (i : SlotNo) (f : Slot → Slot) :
    (s.updSlot i f).draws = s.draws := rfl

/-! ### updLine -/

@[simp] theorem updLine_now (s : State) (l : LineNo) (f : LineRec → LineRec) :
    (s.updLine l f).now = s.now := rfl

@[simp] theorem updLine_phase (s : State) (l : LineNo) (f : LineRec → LineRec) :
    (s.updLine l f).phase = s.phase := rfl

@[simp] theorem updLine_faultN (s : State) (l : LineNo) (f : LineRec → LineRec) :
    (s.updLine l f).faultN = s.faultN := rfl

@[simp] theorem updLine_lanes (s : State) (l : LineNo) (f : LineRec → LineRec) :
    (s.updLine l f).lanes = s.lanes := rfl

@[simp] theorem updLine_slots (s : State) (l : LineNo) (f : LineRec → LineRec) :
    (s.updLine l f).slots = s.slots := rfl

@[simp] theorem updLine_triggers (s : State) (l : LineNo) (f : LineRec → LineRec) :
    (s.updLine l f).triggers = s.triggers := rfl

@[simp] theorem updLine_sync (s : State) (l : LineNo) (f : LineRec → LineRec) :
    (s.updLine l f).sync = s.sync := rfl

@[simp] theorem updLine_kill (s : State) (l : LineNo) (f : LineRec → LineRec) :
    (s.updLine l f).kill = s.kill := rfl

@[simp] theorem updLine_rx (s : State) (l : LineNo) (f : LineRec → LineRec) :
    (s.updLine l f).rx = s.rx := rfl

@[simp] theorem updLine_settings (s : State) (l : LineNo) (f : LineRec → LineRec) :
    (s.updLine l f).settings = s.settings := rfl

@[simp] theorem updLine_tx (s : State) (l : LineNo) (f : LineRec → LineRec) :
    (s.updLine l f).tx = s.tx := rfl

@[simp] theorem updLine_keepalive (s : State) (l : LineNo) (f : LineRec → LineRec) :
    (s.updLine l f).keepalive = s.keepalive := rfl

@[simp] theorem updLine_proc (s : State) (l : LineNo) (f : LineRec → LineRec) :
    (s.updLine l f).proc = s.proc := rfl

@[simp] theorem updLine_setOff (s : State) (l : LineNo) (f : LineRec → LineRec) :
    (s.updLine l f).setOff = s.setOff := rfl

@[simp] theorem updLine_pending (s : State) (l : LineNo) (f : LineRec → LineRec) :
    (s.updLine l f).pending = s.pending := rfl

@[simp] theorem updLine_choices (s : State) (l : LineNo) (f : LineRec → LineRec) :
    (s.updLine l f).choices = s.choices := rfl

@[simp] theorem updLine_draws (s : State) (l : LineNo) (f : LineRec → LineRec) :
    (s.updLine l f).draws = s.draws := rfl

/-! ### mapLines -/

@[simp] theorem mapLines_now (s : State) (f : LineNo → LineRec → LineRec) :
    (s.mapLines f).now = s.now := rfl

@[simp] theorem mapLines_phase (s : State) (f : LineNo → LineRec → LineRec) :
    (s.mapLines f).phase = s.phase := rfl

@[simp] theorem mapLines_faultN (s : State) (f : LineNo → LineRec → LineRec) :
    (s.mapLines f).faultN = s.faultN := rfl

@[simp] theorem mapLines_lanes (s : State) (f : LineNo → LineRec → LineRec) :
    (s.mapLines f).lanes = s.lanes := rfl

@[simp] theorem mapLines_slots (s : State) (f : LineNo → LineRec → LineRec) :
    (s.mapLines f).slots = s.slots := rfl

@[simp] theorem mapLines_triggers (s : State) (f : LineNo → LineRec → LineRec) :
    (s.mapLines f).triggers = s.triggers := rfl

@[simp] theorem mapLines_sync (s : State) (f : LineNo → LineRec → LineRec) :
    (s.mapLines f).sync = s.sync := rfl

@[simp] theorem mapLines_kill (s : State) (f : LineNo → LineRec → LineRec) :
    (s.mapLines f).kill = s.kill := rfl

@[simp] theorem mapLines_rx (s : State) (f : LineNo → LineRec → LineRec) :
    (s.mapLines f).rx = s.rx := rfl

@[simp] theorem mapLines_settings (s : State) (f : LineNo → LineRec → LineRec) :
    (s.mapLines f).settings = s.settings := rfl

@[simp] theorem mapLines_tx (s : State) (f : LineNo → LineRec → LineRec) :
    (s.mapLines f).tx = s.tx := rfl

@[simp] theorem mapLines_keepalive (s : State) (f : LineNo → LineRec → LineRec) :
    (s.mapLines f).keepalive = s.keepalive := rfl

@[simp] theorem mapLines_proc (s : State) (f : LineNo → LineRec → LineRec) :
    (s.mapLines f).proc = s.proc := rfl

@[simp] theorem mapLines_setOff (s : State) (f : LineNo → LineRec → LineRec) :
    (s.mapLines f).setOff = s.setOff := rfl

@[simp] theorem mapLines_pending (s : State) (f : LineNo → LineRec → LineRec) :
    (s.mapLines f).pending = s.pending := rfl

@[simp] theorem mapLines_choices (s : State) (f : LineNo → LineRec → LineRec) :
    (s.mapLines f).choices = s.choices := rfl

@[simp] theorem mapLines_draws (s : State) (f : LineNo → LineRec → LineRec) :
    (s.mapLines f).draws = s.draws := rfl

/-! ### setTrigger -/

@[simp] theorem setTrigger_now (s : State) (i : TrigNo) (t : TriggerFilter) :
    (s.setTrigger i t).now = s.now := rfl

@[simp] theorem setTrigger_phase (s : State) (i : TrigNo) (t : TriggerFilter) :
    (s.setTrigger i t).phase = s.phase := rfl

@[simp] theorem setTrigger_lines (s : State) (i : TrigNo) (t : TriggerFilter) :
    (s.setTrigger i t).lines = s.lines := rfl

@[simp] theorem setTrigger_faultN (s : State) (i : TrigNo) (t : TriggerFilter) :
    (s.setTrigger i t).faultN = s.faultN := rfl

@[simp] theorem setTrigger_lanes (s : State) (i : TrigNo) (t : TriggerFilter) :
    (s.setTrigger i t).lanes = s.lanes := rfl

@[simp] theorem setTrigger_slots (s : State) (i : TrigNo) (t : TriggerFilter) :
    (s.setTrigger i t).slots = s.slots := rfl

@[simp] theorem setTrigger_sync (s : State) (i : TrigNo) (t : TriggerFilter) :
    (s.setTrigger i t).sync = s.sync := rfl

@[simp] theorem setTrigger_kill (s : State) (i : TrigNo) (t : TriggerFilter) :
    (s.setTrigger i t).kill = s.kill := rfl

@[simp] theorem setTrigger_rx (s : State) (i : TrigNo) (t : TriggerFilter) :
    (s.setTrigger i t).rx = s.rx := rfl

@[simp] theorem setTrigger_settings (s : State) (i : TrigNo) (t : TriggerFilter) :
    (s.setTrigger i t).settings = s.settings := rfl

@[simp] theorem setTrigger_tx (s : State) (i : TrigNo) (t : TriggerFilter) :
    (s.setTrigger i t).tx = s.tx := rfl

@[simp] theorem setTrigger_keepalive (s : State) (i : TrigNo) (t : TriggerFilter) :
    (s.setTrigger i t).keepalive = s.keepalive := rfl

@[simp] theorem setTrigger_proc (s : State) (i : TrigNo) (t : TriggerFilter) :
    (s.setTrigger i t).proc = s.proc := rfl

@[simp] theorem setTrigger_setOff (s : State) (i : TrigNo) (t : TriggerFilter) :
    (s.setTrigger i t).setOff = s.setOff := rfl

@[simp] theorem setTrigger_pending (s : State) (i : TrigNo) (t : TriggerFilter) :
    (s.setTrigger i t).pending = s.pending := rfl

@[simp] theorem setTrigger_choices (s : State) (i : TrigNo) (t : TriggerFilter) :
    (s.setTrigger i t).choices = s.choices := rfl

@[simp] theorem setTrigger_draws (s : State) (i : TrigNo) (t : TriggerFilter) :
    (s.setTrigger i t).draws = s.draws := rfl

/-! ### setLaneState -/

@[simp] theorem setLaneState_now (s : State) (n : LaneNo) (st : LaneState) :
    (s.setLaneState n st).now = s.now := rfl

@[simp] theorem setLaneState_phase (s : State) (n : LaneNo) (st : LaneState) :
    (s.setLaneState n st).phase = s.phase := rfl

@[simp] theorem setLaneState_lines (s : State) (n : LaneNo) (st : LaneState) :
    (s.setLaneState n st).lines = s.lines := rfl

@[simp] theorem setLaneState_faultN (s : State) (n : LaneNo) (st : LaneState) :
    (s.setLaneState n st).faultN = s.faultN := rfl

@[simp] theorem setLaneState_slots (s : State) (n : LaneNo) (st : LaneState) :
    (s.setLaneState n st).slots = s.slots := rfl

@[simp] theorem setLaneState_triggers (s : State) (n : LaneNo) (st : LaneState) :
    (s.setLaneState n st).triggers = s.triggers := rfl

@[simp] theorem setLaneState_sync (s : State) (n : LaneNo) (st : LaneState) :
    (s.setLaneState n st).sync = s.sync := rfl

@[simp] theorem setLaneState_kill (s : State) (n : LaneNo) (st : LaneState) :
    (s.setLaneState n st).kill = s.kill := rfl

@[simp] theorem setLaneState_rx (s : State) (n : LaneNo) (st : LaneState) :
    (s.setLaneState n st).rx = s.rx := rfl

@[simp] theorem setLaneState_settings (s : State) (n : LaneNo) (st : LaneState) :
    (s.setLaneState n st).settings = s.settings := rfl

@[simp] theorem setLaneState_tx (s : State) (n : LaneNo) (st : LaneState) :
    (s.setLaneState n st).tx = s.tx := rfl

@[simp] theorem setLaneState_keepalive (s : State) (n : LaneNo) (st : LaneState) :
    (s.setLaneState n st).keepalive = s.keepalive := rfl

@[simp] theorem setLaneState_proc (s : State) (n : LaneNo) (st : LaneState) :
    (s.setLaneState n st).proc = s.proc := rfl

@[simp] theorem setLaneState_setOff (s : State) (n : LaneNo) (st : LaneState) :
    (s.setLaneState n st).setOff = s.setOff := rfl

@[simp] theorem setLaneState_pending (s : State) (n : LaneNo) (st : LaneState) :
    (s.setLaneState n st).pending = s.pending := rfl

@[simp] theorem setLaneState_choices (s : State) (n : LaneNo) (st : LaneState) :
    (s.setLaneState n st).choices = s.choices := rfl

@[simp] theorem setLaneState_draws (s : State) (n : LaneNo) (st : LaneState) :
    (s.setLaneState n st).draws = s.draws := rfl

/-! ### post -/

@[simp] theorem post_now (s : State) (m : Message) :
    (s.post m).now = s.now := rfl

@[simp] theorem post_phase (s : State) (m : Message) :
    (s.post m).phase = s.phase := rfl

@[simp] theorem post_lines (s : State) (m : Message) :
    (s.post m).lines = s.lines := rfl

@[simp] theorem post_faultN (s : State) (m : Message) :
    (s.post m).faultN = s.faultN := rfl

@[simp] theorem post_lanes (s : State) (m : Message) :
    (s.post m).lanes = s.lanes := rfl

@[simp] theorem post_slots (s : State) (m : Message) :
    (s.post m).slots = s.slots := rfl

@[simp] theorem post_triggers (s : State) (m : Message) :
    (s.post m).triggers = s.triggers := rfl

@[simp] theorem post_sync (s : State) (m : Message) :
    (s.post m).sync = s.sync := rfl

@[simp] theorem post_kill (s : State) (m : Message) :
    (s.post m).kill = s.kill := rfl

@[simp] theorem post_rx (s : State) (m : Message) :
    (s.post m).rx = s.rx := rfl

@[simp] theorem post_settings (s : State) (m : Message) :
    (s.post m).settings = s.settings := rfl

@[simp] theorem post_keepalive (s : State) (m : Message) :
    (s.post m).keepalive = s.keepalive := rfl

@[simp] theorem post_proc (s : State) (m : Message) :
    (s.post m).proc = s.proc := rfl

@[simp] theorem post_setOff (s : State) (m : Message) :
    (s.post m).setOff = s.setOff := rfl

@[simp] theorem post_pending (s : State) (m : Message) :
    (s.post m).pending = s.pending := rfl

@[simp] theorem post_choices (s : State) (m : Message) :
    (s.post m).choices = s.choices := rfl

@[simp] theorem post_draws (s : State) (m : Message) :
    (s.post m).draws = s.draws := rfl

/-! ### sets -/

@[simp] theorem sets_now (s : State) (es : List SetOff) :
    (s.sets es).now = s.now := rfl

@[simp] theorem sets_phase (s : State) (es : List SetOff) :
    (s.sets es).phase = s.phase := rfl

@[simp] theorem sets_lines (s : State) (es : List SetOff) :
    (s.sets es).lines = s.lines := rfl

@[simp] theorem sets_faultN (s : State) (es : List SetOff) :
    (s.sets es).faultN = s.faultN := rfl

@[simp] theorem sets_lanes (s : State) (es : List SetOff) :
    (s.sets es).lanes = s.lanes := rfl

@[simp] theorem sets_slots (s : State) (es : List SetOff) :
    (s.sets es).slots = s.slots := rfl

@[simp] theorem sets_triggers (s : State) (es : List SetOff) :
    (s.sets es).triggers = s.triggers := rfl

@[simp] theorem sets_sync (s : State) (es : List SetOff) :
    (s.sets es).sync = s.sync := rfl

@[simp] theorem sets_kill (s : State) (es : List SetOff) :
    (s.sets es).kill = s.kill := rfl

@[simp] theorem sets_rx (s : State) (es : List SetOff) :
    (s.sets es).rx = s.rx := rfl

@[simp] theorem sets_settings (s : State) (es : List SetOff) :
    (s.sets es).settings = s.settings := rfl

@[simp] theorem sets_tx (s : State) (es : List SetOff) :
    (s.sets es).tx = s.tx := rfl

@[simp] theorem sets_keepalive (s : State) (es : List SetOff) :
    (s.sets es).keepalive = s.keepalive := rfl

@[simp] theorem sets_proc (s : State) (es : List SetOff) :
    (s.sets es).proc = s.proc := rfl

@[simp] theorem sets_pending (s : State) (es : List SetOff) :
    (s.sets es).pending = s.pending := rfl

@[simp] theorem sets_choices (s : State) (es : List SetOff) :
    (s.sets es).choices = s.choices := rfl

@[simp] theorem sets_draws (s : State) (es : List SetOff) :
    (s.sets es).draws = s.draws := rfl

/-! ### report -/

@[simp] theorem report_now (s : State) (r : Report) :
    (s.report r).now = s.now := rfl

@[simp] theorem report_phase (s : State) (r : Report) :
    (s.report r).phase = s.phase := rfl

@[simp] theorem report_lines (s : State) (r : Report) :
    (s.report r).lines = s.lines := rfl

@[simp] theorem report_faultN (s : State) (r : Report) :
    (s.report r).faultN = s.faultN := rfl

@[simp] theorem report_lanes (s : State) (r : Report) :
    (s.report r).lanes = s.lanes := rfl

@[simp] theorem report_slots (s : State) (r : Report) :
    (s.report r).slots = s.slots := rfl

@[simp] theorem report_triggers (s : State) (r : Report) :
    (s.report r).triggers = s.triggers := rfl

@[simp] theorem report_sync (s : State) (r : Report) :
    (s.report r).sync = s.sync := rfl

@[simp] theorem report_kill (s : State) (r : Report) :
    (s.report r).kill = s.kill := rfl

@[simp] theorem report_rx (s : State) (r : Report) :
    (s.report r).rx = s.rx := rfl

@[simp] theorem report_settings (s : State) (r : Report) :
    (s.report r).settings = s.settings := rfl

@[simp] theorem report_tx (s : State) (r : Report) :
    (s.report r).tx = s.tx := rfl

@[simp] theorem report_keepalive (s : State) (r : Report) :
    (s.report r).keepalive = s.keepalive := rfl

@[simp] theorem report_proc (s : State) (r : Report) :
    (s.report r).proc = s.proc := rfl

@[simp] theorem report_pending (s : State) (r : Report) :
    (s.report r).pending = s.pending := rfl

@[simp] theorem report_choices (s : State) (r : Report) :
    (s.report r).choices = s.choices := rfl

@[simp] theorem report_draws (s : State) (r : Report) :
    (s.report r).draws = s.draws := rfl

/-! ### hunt -/

@[simp] theorem hunt_now (s : State) :
    (s.hunt).now = s.now := rfl

@[simp] theorem hunt_phase (s : State) :
    (s.hunt).phase = s.phase := rfl

@[simp] theorem hunt_lines (s : State) :
    (s.hunt).lines = s.lines := rfl

@[simp] theorem hunt_faultN (s : State) :
    (s.hunt).faultN = s.faultN := rfl

@[simp] theorem hunt_lanes (s : State) :
    (s.hunt).lanes = s.lanes := rfl

@[simp] theorem hunt_slots (s : State) :
    (s.hunt).slots = s.slots := rfl

@[simp] theorem hunt_triggers (s : State) :
    (s.hunt).triggers = s.triggers := rfl

@[simp] theorem hunt_sync (s : State) :
    (s.hunt).sync = s.sync := rfl

@[simp] theorem hunt_kill (s : State) :
    (s.hunt).kill = s.kill := rfl

@[simp] theorem hunt_settings (s : State) :
    (s.hunt).settings = s.settings := rfl

@[simp] theorem hunt_tx (s : State) :
    (s.hunt).tx = s.tx := rfl

@[simp] theorem hunt_keepalive (s : State) :
    (s.hunt).keepalive = s.keepalive := rfl

@[simp] theorem hunt_proc (s : State) :
    (s.hunt).proc = s.proc := rfl

@[simp] theorem hunt_setOff (s : State) :
    (s.hunt).setOff = s.setOff := rfl

@[simp] theorem hunt_pending (s : State) :
    (s.hunt).pending = s.pending := rfl

@[simp] theorem hunt_choices (s : State) :
    (s.hunt).choices = s.choices := rfl

@[simp] theorem hunt_draws (s : State) :
    (s.hunt).draws = s.draws := rfl

/-! ### endCharacter -/

@[simp] theorem endCharacter_now (s : State) (q : Option Nat) :
    (s.endCharacter q).now = s.now := rfl

@[simp] theorem endCharacter_phase (s : State) (q : Option Nat) :
    (s.endCharacter q).phase = s.phase := rfl

@[simp] theorem endCharacter_lines (s : State) (q : Option Nat) :
    (s.endCharacter q).lines = s.lines := rfl

@[simp] theorem endCharacter_faultN (s : State) (q : Option Nat) :
    (s.endCharacter q).faultN = s.faultN := rfl

@[simp] theorem endCharacter_lanes (s : State) (q : Option Nat) :
    (s.endCharacter q).lanes = s.lanes := rfl

@[simp] theorem endCharacter_slots (s : State) (q : Option Nat) :
    (s.endCharacter q).slots = s.slots := rfl

@[simp] theorem endCharacter_triggers (s : State) (q : Option Nat) :
    (s.endCharacter q).triggers = s.triggers := rfl

@[simp] theorem endCharacter_sync (s : State) (q : Option Nat) :
    (s.endCharacter q).sync = s.sync := rfl

@[simp] theorem endCharacter_kill (s : State) (q : Option Nat) :
    (s.endCharacter q).kill = s.kill := rfl

@[simp] theorem endCharacter_settings (s : State) (q : Option Nat) :
    (s.endCharacter q).settings = s.settings := rfl

@[simp] theorem endCharacter_tx (s : State) (q : Option Nat) :
    (s.endCharacter q).tx = s.tx := rfl

@[simp] theorem endCharacter_keepalive (s : State) (q : Option Nat) :
    (s.endCharacter q).keepalive = s.keepalive := rfl

@[simp] theorem endCharacter_proc (s : State) (q : Option Nat) :
    (s.endCharacter q).proc = s.proc := rfl

@[simp] theorem endCharacter_setOff (s : State) (q : Option Nat) :
    (s.endCharacter q).setOff = s.setOff := rfl

@[simp] theorem endCharacter_pending (s : State) (q : Option Nat) :
    (s.endCharacter q).pending = s.pending := rfl

@[simp] theorem endCharacter_choices (s : State) (q : Option Nat) :
    (s.endCharacter q).choices = s.choices := rfl

@[simp] theorem endCharacter_draws (s : State) (q : Option Nat) :
    (s.endCharacter q).draws = s.draws := rfl

/-! ### waitOn -/

@[simp] theorem waitOn_now (s : State) (q : Option Nat) :
    (s.waitOn q).now = s.now := rfl

@[simp] theorem waitOn_phase (s : State) (q : Option Nat) :
    (s.waitOn q).phase = s.phase := rfl

@[simp] theorem waitOn_lines (s : State) (q : Option Nat) :
    (s.waitOn q).lines = s.lines := rfl

@[simp] theorem waitOn_faultN (s : State) (q : Option Nat) :
    (s.waitOn q).faultN = s.faultN := rfl

@[simp] theorem waitOn_lanes (s : State) (q : Option Nat) :
    (s.waitOn q).lanes = s.lanes := rfl

@[simp] theorem waitOn_slots (s : State) (q : Option Nat) :
    (s.waitOn q).slots = s.slots := rfl

@[simp] theorem waitOn_triggers (s : State) (q : Option Nat) :
    (s.waitOn q).triggers = s.triggers := rfl

@[simp] theorem waitOn_sync (s : State) (q : Option Nat) :
    (s.waitOn q).sync = s.sync := rfl

@[simp] theorem waitOn_kill (s : State) (q : Option Nat) :
    (s.waitOn q).kill = s.kill := rfl

@[simp] theorem waitOn_settings (s : State) (q : Option Nat) :
    (s.waitOn q).settings = s.settings := rfl

@[simp] theorem waitOn_tx (s : State) (q : Option Nat) :
    (s.waitOn q).tx = s.tx := rfl

@[simp] theorem waitOn_keepalive (s : State) (q : Option Nat) :
    (s.waitOn q).keepalive = s.keepalive := rfl

@[simp] theorem waitOn_proc (s : State) (q : Option Nat) :
    (s.waitOn q).proc = s.proc := rfl

@[simp] theorem waitOn_setOff (s : State) (q : Option Nat) :
    (s.waitOn q).setOff = s.setOff := rfl

@[simp] theorem waitOn_pending (s : State) (q : Option Nat) :
    (s.waitOn q).pending = s.pending := rfl

@[simp] theorem waitOn_choices (s : State) (q : Option Nat) :
    (s.waitOn q).choices = s.choices := rfl

@[simp] theorem waitOn_draws (s : State) (q : Option Nat) :
    (s.waitOn q).draws = s.draws := rfl

/-! ### count -/

@[simp] theorem count_now (s : State) (f : LinkCounters → LinkCounters) :
    (s.count f).now = s.now := rfl

@[simp] theorem count_phase (s : State) (f : LinkCounters → LinkCounters) :
    (s.count f).phase = s.phase := rfl

@[simp] theorem count_lines (s : State) (f : LinkCounters → LinkCounters) :
    (s.count f).lines = s.lines := rfl

@[simp] theorem count_faultN (s : State) (f : LinkCounters → LinkCounters) :
    (s.count f).faultN = s.faultN := rfl

@[simp] theorem count_lanes (s : State) (f : LinkCounters → LinkCounters) :
    (s.count f).lanes = s.lanes := rfl

@[simp] theorem count_slots (s : State) (f : LinkCounters → LinkCounters) :
    (s.count f).slots = s.slots := rfl

@[simp] theorem count_triggers (s : State) (f : LinkCounters → LinkCounters) :
    (s.count f).triggers = s.triggers := rfl

@[simp] theorem count_sync (s : State) (f : LinkCounters → LinkCounters) :
    (s.count f).sync = s.sync := rfl

@[simp] theorem count_kill (s : State) (f : LinkCounters → LinkCounters) :
    (s.count f).kill = s.kill := rfl

@[simp] theorem count_settings (s : State) (f : LinkCounters → LinkCounters) :
    (s.count f).settings = s.settings := rfl

@[simp] theorem count_tx (s : State) (f : LinkCounters → LinkCounters) :
    (s.count f).tx = s.tx := rfl

@[simp] theorem count_keepalive (s : State) (f : LinkCounters → LinkCounters) :
    (s.count f).keepalive = s.keepalive := rfl

@[simp] theorem count_proc (s : State) (f : LinkCounters → LinkCounters) :
    (s.count f).proc = s.proc := rfl

@[simp] theorem count_setOff (s : State) (f : LinkCounters → LinkCounters) :
    (s.count f).setOff = s.setOff := rfl

@[simp] theorem count_pending (s : State) (f : LinkCounters → LinkCounters) :
    (s.count f).pending = s.pending := rfl

@[simp] theorem count_choices (s : State) (f : LinkCounters → LinkCounters) :
    (s.count f).choices = s.choices := rfl

@[simp] theorem count_draws (s : State) (f : LinkCounters → LinkCounters) :
    (s.count f).draws = s.draws := rfl

/-! ### tick -/

@[simp] theorem tick_phase (s : State) :
    (s.tick).phase = s.phase := rfl

@[simp] theorem tick_lines (s : State) :
    (s.tick).lines = s.lines := rfl

@[simp] theorem tick_faultN (s : State) :
    (s.tick).faultN = s.faultN := rfl

@[simp] theorem tick_lanes (s : State) :
    (s.tick).lanes = s.lanes := rfl

@[simp] theorem tick_slots (s : State) :
    (s.tick).slots = s.slots := rfl

@[simp] theorem tick_triggers (s : State) :
    (s.tick).triggers = s.triggers := rfl

@[simp] theorem tick_kill (s : State) :
    (s.tick).kill = s.kill := rfl

@[simp] theorem tick_settings (s : State) :
    (s.tick).settings = s.settings := rfl

@[simp] theorem tick_tx (s : State) :
    (s.tick).tx = s.tx := rfl

@[simp] theorem tick_proc (s : State) :
    (s.tick).proc = s.proc := rfl

@[simp] theorem tick_setOff (s : State) :
    (s.tick).setOff = s.setOff := rfl

@[simp] theorem tick_pending (s : State) :
    (s.tick).pending = s.pending := rfl

@[simp] theorem tick_choices (s : State) :
    (s.tick).choices = s.choices := rfl

@[simp] theorem tick_draws (s : State) :
    (s.tick).draws = s.draws := rfl

/-! ### offer -/

@[simp] theorem offer_now (s : State) (r : Report) : (s.offer r).now = s.now := by
  unfold State.offer; split <;> rfl

@[simp] theorem offer_phase (s : State) (r : Report) : (s.offer r).phase = s.phase := by
  unfold State.offer; split <;> rfl

@[simp] theorem offer_lines (s : State) (r : Report) : (s.offer r).lines = s.lines := by
  unfold State.offer; split <;> rfl

@[simp] theorem offer_faultN (s : State) (r : Report) : (s.offer r).faultN = s.faultN := by
  unfold State.offer; split <;> rfl

@[simp] theorem offer_lanes (s : State) (r : Report) : (s.offer r).lanes = s.lanes := by
  unfold State.offer; split <;> rfl

@[simp] theorem offer_slots (s : State) (r : Report) : (s.offer r).slots = s.slots := by
  unfold State.offer; split <;> rfl

@[simp] theorem offer_triggers (s : State) (r : Report) : (s.offer r).triggers = s.triggers := by
  unfold State.offer; split <;> rfl

@[simp] theorem offer_sync (s : State) (r : Report) : (s.offer r).sync = s.sync := by
  unfold State.offer; split <;> rfl

@[simp] theorem offer_kill (s : State) (r : Report) : (s.offer r).kill = s.kill := by
  unfold State.offer; split <;> rfl

@[simp] theorem offer_rx (s : State) (r : Report) : (s.offer r).rx = s.rx := by
  unfold State.offer; split <;> rfl

@[simp] theorem offer_settings (s : State) (r : Report) : (s.offer r).settings = s.settings := by
  unfold State.offer; split <;> rfl

@[simp] theorem offer_keepalive (s : State) (r : Report) : (s.offer r).keepalive = s.keepalive := by
  unfold State.offer; split <;> rfl

@[simp] theorem offer_proc (s : State) (r : Report) : (s.offer r).proc = s.proc := by
  unfold State.offer; split <;> rfl

@[simp] theorem offer_setOff (s : State) (r : Report) : (s.offer r).setOff = s.setOff := by
  unfold State.offer; split <;> rfl

@[simp] theorem offer_pending (s : State) (r : Report) : (s.offer r).pending = s.pending := by
  unfold State.offer; split <;> rfl

@[simp] theorem offer_choices (s : State) (r : Report) : (s.offer r).choices = s.choices := by
  unfold State.offer; split <;> rfl

@[simp] theorem offer_draws (s : State) (r : Report) : (s.offer r).draws = s.draws := by
  unfold State.offer; split <;> rfl

/-! ### draw -/

@[simp] theorem draw_now (s : State) : s.draw.2.now = s.now := by
  unfold State.draw; split <;> rfl

@[simp] theorem draw_phase (s : State) : s.draw.2.phase = s.phase := by
  unfold State.draw; split <;> rfl

@[simp] theorem draw_lines (s : State) : s.draw.2.lines = s.lines := by
  unfold State.draw; split <;> rfl

@[simp] theorem draw_faultN (s : State) : s.draw.2.faultN = s.faultN := by
  unfold State.draw; split <;> rfl

@[simp] theorem draw_lanes (s : State) : s.draw.2.lanes = s.lanes := by
  unfold State.draw; split <;> rfl

@[simp] theorem draw_slots (s : State) : s.draw.2.slots = s.slots := by
  unfold State.draw; split <;> rfl

@[simp] theorem draw_triggers (s : State) : s.draw.2.triggers = s.triggers := by
  unfold State.draw; split <;> rfl

@[simp] theorem draw_sync (s : State) : s.draw.2.sync = s.sync := by
  unfold State.draw; split <;> rfl

@[simp] theorem draw_kill (s : State) : s.draw.2.kill = s.kill := by
  unfold State.draw; split <;> rfl

@[simp] theorem draw_rx (s : State) : s.draw.2.rx = s.rx := by
  unfold State.draw; split <;> rfl

@[simp] theorem draw_settings (s : State) : s.draw.2.settings = s.settings := by
  unfold State.draw; split <;> rfl

@[simp] theorem draw_tx (s : State) : s.draw.2.tx = s.tx := by
  unfold State.draw; split <;> rfl

@[simp] theorem draw_keepalive (s : State) : s.draw.2.keepalive = s.keepalive := by
  unfold State.draw; split <;> rfl

@[simp] theorem draw_proc (s : State) : s.draw.2.proc = s.proc := by
  unfold State.draw; split <;> rfl

@[simp] theorem draw_setOff (s : State) : s.draw.2.setOff = s.setOff := by
  unfold State.draw; split <;> rfl

@[simp] theorem draw_pending (s : State) : s.draw.2.pending = s.pending := by
  unfold State.draw; split <;> rfl

/-! ### What is in flight -/

@[simp] theorem sets_setOff (s : State) (es : List SetOff) : (s.sets es).setOff = s.setOff ++ es := rfl

@[simp] theorem report_setOff (s : State) (r : Report) : (s.report r).setOff = s.setOff ++ [.reports [r]] := rfl

@[simp] theorem sets_nil (s : State) : s.sets [] = s := by
  cases s; simp [State.sets]

@[simp] theorem sets_sets (s : State) (a b : List SetOff) : (s.sets a).sets b = s.sets (a ++ b) := by
  simp [State.sets]

/-! ### The readings after each update -/

@[simp] theorem lane_updLane_self (s : State) (n : LaneNo) (f : LaneRec → LaneRec) :
    (s.updLane n f).lane n = f (s.lane n) := by
  simp [State.lane, State.updLane]

@[simp] theorem lane_updLane_ne (s : State) (n m : LaneNo) (f : LaneRec → LaneRec) (h : m ≠ n) :
    (s.updLane n f).lane m = s.lane m := by
  have h' : (n : Nat) ≠ m := fun e => h (Fin.ext e.symm)
  simp [State.lane, State.updLane, Vector.getElem_set_ne, h']

/-- The reading of any lane after an update of one. -/
theorem lane_updLane (s : State) (n m : LaneNo) (f : LaneRec → LaneRec) :
    (s.updLane n f).lane m = if m = n then f (s.lane n) else s.lane m := by
  by_cases h : m = n
  · subst h; simp
  · simp [h]

@[simp] theorem slot_updSlot_self (s : State) (i : SlotNo) (f : Slot → Slot) :
    (s.updSlot i f).slot i = f (s.slot i) := by
  simp [State.slot, State.updSlot]

@[simp] theorem slot_updSlot_ne (s : State) (i j : SlotNo) (f : Slot → Slot) (h : j ≠ i) :
    (s.updSlot i f).slot j = s.slot j := by
  have h' : (i : Nat) ≠ j := fun e => h (Fin.ext e.symm)
  simp [State.slot, State.updSlot, Vector.getElem_set_ne, h']

/-- The reading of any slot after an update of one. -/
theorem slot_updSlot (s : State) (i j : SlotNo) (f : Slot → Slot) :
    (s.updSlot i f).slot j = if j = i then f (s.slot i) else s.slot j := by
  by_cases h : j = i
  · subst h; simp
  · simp [h]

@[simp] theorem line_updLine_self (s : State) (l : LineNo) (f : LineRec → LineRec) :
    (s.updLine l f).line l = f (s.line l) := by
  simp [State.line, State.updLine]

@[simp] theorem line_updLine_ne (s : State) (l m : LineNo) (f : LineRec → LineRec) (h : m ≠ l) :
    (s.updLine l f).line m = s.line m := by
  have h' : (l : Nat) ≠ m := fun e => h (Fin.ext e.symm)
  simp [State.line, State.updLine, Vector.getElem_set_ne, h']

/-- The reading of any line after an update of one. -/
theorem line_updLine (s : State) (l m : LineNo) (f : LineRec → LineRec) :
    (s.updLine l f).line m = if m = l then f (s.line l) else s.line m := by
  by_cases h : m = l
  · subst h; simp
  · simp [h]

@[simp] theorem line_mapLines (s : State) (f : LineNo → LineRec → LineRec) (l : LineNo) :
    (s.mapLines f).line l = f l (s.line l) := by
  simp [State.line, State.mapLines]

@[simp] theorem trigger_setTrigger_self (s : State) (i : TrigNo) (t : TriggerFilter) :
    (s.setTrigger i t).trigger i = t := by
  simp [State.trigger, State.setTrigger]

@[simp] theorem trigger_setTrigger_ne (s : State) (i j : TrigNo) (t : TriggerFilter) (h : j ≠ i) :
    (s.setTrigger i t).trigger j = s.trigger j := by
  have h' : (i : Nat) ≠ j := fun e => h (Fin.ext e.symm)
  simp [State.trigger, State.setTrigger, Vector.getElem_set_ne, h']

@[simp] theorem lane_setLaneState_self (s : State) (n : LaneNo) (st : LaneState) :
    (s.setLaneState n st).lane n = { s.lane n with state := st } := by
  simp [State.setLaneState]

@[simp] theorem lane_setLaneState_ne (s : State) (n m : LaneNo) (st : LaneState) (h : m ≠ n) :
    (s.setLaneState n st).lane m = s.lane m := by
  simp [State.setLaneState, h]

@[simp] theorem line_updLane (s : State) (n : LaneNo) (f : LaneRec → LaneRec) (x : LineNo) : (s.updLane n f).line x = s.line x := rfl

@[simp] theorem slot_updLane (s : State) (n : LaneNo) (f : LaneRec → LaneRec) (x : SlotNo) : (s.updLane n f).slot x = s.slot x := rfl

@[simp] theorem trigger_updLane (s : State) (n : LaneNo) (f : LaneRec → LaneRec) (x : TrigNo) : (s.updLane n f).trigger x = s.trigger x := rfl

@[simp] theorem line_updSlot (s : State) (i : SlotNo) (f : Slot → Slot) (x : LineNo) : (s.updSlot i f).line x = s.line x := rfl

@[simp] theorem lane_updSlot (s : State) (i : SlotNo) (f : Slot → Slot) (x : LaneNo) : (s.updSlot i f).lane x = s.lane x := rfl

@[simp] theorem trigger_updSlot (s : State) (i : SlotNo) (f : Slot → Slot) (x : TrigNo) : (s.updSlot i f).trigger x = s.trigger x := rfl

@[simp] theorem lane_updLine (s : State) (k : LineNo) (f : LineRec → LineRec) (x : LaneNo) : (s.updLine k f).lane x = s.lane x := rfl

@[simp] theorem slot_updLine (s : State) (k : LineNo) (f : LineRec → LineRec) (x : SlotNo) : (s.updLine k f).slot x = s.slot x := rfl

@[simp] theorem trigger_updLine (s : State) (k : LineNo) (f : LineRec → LineRec) (x : TrigNo) : (s.updLine k f).trigger x = s.trigger x := rfl

@[simp] theorem lane_mapLines (s : State) (f : LineNo → LineRec → LineRec) (x : LaneNo) : (s.mapLines f).lane x = s.lane x := rfl

@[simp] theorem slot_mapLines (s : State) (f : LineNo → LineRec → LineRec) (x : SlotNo) : (s.mapLines f).slot x = s.slot x := rfl

@[simp] theorem trigger_mapLines (s : State) (f : LineNo → LineRec → LineRec) (x : TrigNo) : (s.mapLines f).trigger x = s.trigger x := rfl

@[simp] theorem line_setTrigger (s : State) (i : TrigNo) (t : TriggerFilter) (x : LineNo) : (s.setTrigger i t).line x = s.line x := rfl

@[simp] theorem lane_setTrigger (s : State) (i : TrigNo) (t : TriggerFilter) (x : LaneNo) : (s.setTrigger i t).lane x = s.lane x := rfl

@[simp] theorem slot_setTrigger (s : State) (i : TrigNo) (t : TriggerFilter) (x : SlotNo) : (s.setTrigger i t).slot x = s.slot x := rfl

@[simp] theorem line_setLaneState (s : State) (n : LaneNo) (st : LaneState) (x : LineNo) : (s.setLaneState n st).line x = s.line x := rfl

@[simp] theorem slot_setLaneState (s : State) (n : LaneNo) (st : LaneState) (x : SlotNo) : (s.setLaneState n st).slot x = s.slot x := rfl

@[simp] theorem trigger_setLaneState (s : State) (n : LaneNo) (st : LaneState) (x : TrigNo) : (s.setLaneState n st).trigger x = s.trigger x := rfl

@[simp] theorem line_post (s : State) (m : Message) (x : LineNo) : (s.post m).line x = s.line x := rfl

@[simp] theorem lane_post (s : State) (m : Message) (x : LaneNo) : (s.post m).lane x = s.lane x := rfl

@[simp] theorem slot_post (s : State) (m : Message) (x : SlotNo) : (s.post m).slot x = s.slot x := rfl

@[simp] theorem trigger_post (s : State) (m : Message) (x : TrigNo) : (s.post m).trigger x = s.trigger x := rfl

@[simp] theorem line_sets (s : State) (es : List SetOff) (x : LineNo) : (s.sets es).line x = s.line x := rfl

@[simp] theorem lane_sets (s : State) (es : List SetOff) (x : LaneNo) : (s.sets es).lane x = s.lane x := rfl

@[simp] theorem slot_sets (s : State) (es : List SetOff) (x : SlotNo) : (s.sets es).slot x = s.slot x := rfl

@[simp] theorem trigger_sets (s : State) (es : List SetOff) (x : TrigNo) : (s.sets es).trigger x = s.trigger x := rfl

@[simp] theorem line_report (s : State) (r : Report) (x : LineNo) : (s.report r).line x = s.line x := rfl

@[simp] theorem lane_report (s : State) (r : Report) (x : LaneNo) : (s.report r).lane x = s.lane x := rfl

@[simp] theorem slot_report (s : State) (r : Report) (x : SlotNo) : (s.report r).slot x = s.slot x := rfl

@[simp] theorem trigger_report (s : State) (r : Report) (x : TrigNo) : (s.report r).trigger x = s.trigger x := rfl

@[simp] theorem line_hunt (s : State) (x : LineNo) : (s.hunt).line x = s.line x := rfl

@[simp] theorem lane_hunt (s : State) (x : LaneNo) : (s.hunt).lane x = s.lane x := rfl

@[simp] theorem slot_hunt (s : State) (x : SlotNo) : (s.hunt).slot x = s.slot x := rfl

@[simp] theorem trigger_hunt (s : State) (x : TrigNo) : (s.hunt).trigger x = s.trigger x := rfl

@[simp] theorem line_count (s : State) (f : LinkCounters → LinkCounters) (x : LineNo) : (s.count f).line x = s.line x := rfl

@[simp] theorem lane_count (s : State) (f : LinkCounters → LinkCounters) (x : LaneNo) : (s.count f).lane x = s.lane x := rfl

@[simp] theorem slot_count (s : State) (f : LinkCounters → LinkCounters) (x : SlotNo) : (s.count f).slot x = s.slot x := rfl

@[simp] theorem trigger_count (s : State) (f : LinkCounters → LinkCounters) (x : TrigNo) : (s.count f).trigger x = s.trigger x := rfl

@[simp] theorem line_tick (s : State) (x : LineNo) : (s.tick).line x = s.line x := rfl

@[simp] theorem lane_tick (s : State) (x : LaneNo) : (s.tick).lane x = s.lane x := rfl

@[simp] theorem slot_tick (s : State) (x : SlotNo) : (s.tick).slot x = s.slot x := rfl

@[simp] theorem trigger_tick (s : State) (x : TrigNo) : (s.tick).trigger x = s.trigger x := rfl

@[simp] theorem line_offer (s : State) (p : Report) (x : LineNo) : (s.offer p).line x = s.line x := by
  unfold State.offer; split <;> rfl

@[simp] theorem line_draw (s : State) (x : LineNo) : s.draw.2.line x = s.line x := by
  unfold State.draw; split <;> rfl

@[simp] theorem lane_offer (s : State) (p : Report) (x : LaneNo) : (s.offer p).lane x = s.lane x := by
  unfold State.offer; split <;> rfl

@[simp] theorem lane_draw (s : State) (x : LaneNo) : s.draw.2.lane x = s.lane x := by
  unfold State.draw; split <;> rfl

@[simp] theorem slot_offer (s : State) (p : Report) (x : SlotNo) : (s.offer p).slot x = s.slot x := by
  unfold State.offer; split <;> rfl

@[simp] theorem slot_draw (s : State) (x : SlotNo) : s.draw.2.slot x = s.slot x := by
  unfold State.draw; split <;> rfl

@[simp] theorem trigger_offer (s : State) (p : Report) (x : TrigNo) : (s.offer p).trigger x = s.trigger x := by
  unfold State.offer; split <;> rfl

@[simp] theorem trigger_draw (s : State) (x : TrigNo) : s.draw.2.trigger x = s.trigger x := by
  unfold State.draw; split <;> rfl

@[simp] theorem partner_updLane (s : State) (n : LaneNo) (f : LaneRec → LaneRec) (x : LineNo) : (s.updLane n f).partner x = s.partner x := rfl

@[simp] theorem held_updLane (s : State) (n : LaneNo) (f : LaneRec → LaneRec) : (s.updLane n f).held = s.held := rfl

@[simp] theorem partner_updSlot (s : State) (i : SlotNo) (f : Slot → Slot) (x : LineNo) : (s.updSlot i f).partner x = s.partner x := rfl

@[simp] theorem held_updSlot (s : State) (i : SlotNo) (f : Slot → Slot) : (s.updSlot i f).held = s.held := rfl

@[simp] theorem elapsed_updSlot (s : State) (i : SlotNo) (f : Slot → Slot) (x : LaneNo) : (s.updSlot i f).elapsed x = s.elapsed x := rfl

@[simp] theorem held_updLine (s : State) (k : LineNo) (f : LineRec → LineRec) : (s.updLine k f).held = s.held := rfl

@[simp] theorem elapsed_updLine (s : State) (k : LineNo) (f : LineRec → LineRec) (x : LaneNo) : (s.updLine k f).elapsed x = s.elapsed x := rfl

@[simp] theorem held_mapLines (s : State) (f : LineNo → LineRec → LineRec) : (s.mapLines f).held = s.held := rfl

@[simp] theorem elapsed_mapLines (s : State) (f : LineNo → LineRec → LineRec) (x : LaneNo) : (s.mapLines f).elapsed x = s.elapsed x := rfl

@[simp] theorem partner_setTrigger (s : State) (i : TrigNo) (t : TriggerFilter) (x : LineNo) : (s.setTrigger i t).partner x = s.partner x := rfl

@[simp] theorem held_setTrigger (s : State) (i : TrigNo) (t : TriggerFilter) : (s.setTrigger i t).held = s.held := rfl

@[simp] theorem elapsed_setTrigger (s : State) (i : TrigNo) (t : TriggerFilter) (x : LaneNo) : (s.setTrigger i t).elapsed x = s.elapsed x := rfl

@[simp] theorem partner_setLaneState (s : State) (n : LaneNo) (st : LaneState) (x : LineNo) : (s.setLaneState n st).partner x = s.partner x := rfl

@[simp] theorem held_setLaneState (s : State) (n : LaneNo) (st : LaneState) : (s.setLaneState n st).held = s.held := rfl

@[simp] theorem partner_post (s : State) (m : Message) (x : LineNo) : (s.post m).partner x = s.partner x := rfl

@[simp] theorem elapsed_post (s : State) (m : Message) (x : LaneNo) : (s.post m).elapsed x = s.elapsed x := rfl

@[simp] theorem partner_sets (s : State) (es : List SetOff) (x : LineNo) : (s.sets es).partner x = s.partner x := rfl

@[simp] theorem held_sets (s : State) (es : List SetOff) : (s.sets es).held = s.held := rfl

@[simp] theorem elapsed_sets (s : State) (es : List SetOff) (x : LaneNo) : (s.sets es).elapsed x = s.elapsed x := rfl

@[simp] theorem partner_report (s : State) (r : Report) (x : LineNo) : (s.report r).partner x = s.partner x := rfl

@[simp] theorem held_report (s : State) (r : Report) : (s.report r).held = s.held := rfl

@[simp] theorem elapsed_report (s : State) (r : Report) (x : LaneNo) : (s.report r).elapsed x = s.elapsed x := rfl

@[simp] theorem partner_hunt (s : State) (x : LineNo) : (s.hunt).partner x = s.partner x := rfl

@[simp] theorem held_hunt (s : State) : (s.hunt).held = s.held := rfl

@[simp] theorem elapsed_hunt (s : State) (x : LaneNo) : (s.hunt).elapsed x = s.elapsed x := rfl

@[simp] theorem partner_count (s : State) (f : LinkCounters → LinkCounters) (x : LineNo) : (s.count f).partner x = s.partner x := rfl

@[simp] theorem held_count (s : State) (f : LinkCounters → LinkCounters) : (s.count f).held = s.held := rfl

@[simp] theorem elapsed_count (s : State) (f : LinkCounters → LinkCounters) (x : LaneNo) : (s.count f).elapsed x = s.elapsed x := rfl

@[simp] theorem partner_tick (s : State) (x : LineNo) : (s.tick).partner x = s.partner x := rfl

@[simp] theorem held_tick (s : State) : (s.tick).held = s.held := rfl

@[simp] theorem partner_offer (s : State) (r : Report) (x : LineNo) : (s.offer r).partner x = s.partner x := by
  simp [State.partner]

/-! ### The readings of a record written out -/

@[simp] theorem line_mk (v0 : Nat) (v1 : Phase) (v2 : Vector LineRec 24) (v3 : Bool) (v4 : Vector LaneRec 4) (v5 : Vector Slot 32) (v6 : Vector TriggerFilter 4) (v7 : SyncUnit) (v8 : KillInput) (v9 : Receiver) (v10 : LinkSettings) (v11 : Transmitter) (v12 : Keepalive) (v13 : Proc) (v14 : List SetOff) (v15 : List Instr) (v16 : List Nat) (v17 : Nat)
    (x : LineNo) : (State.mk v0 v1 v2 v3 v4 v5 v6 v7 v8 v9 v10 v11 v12 v13 v14 v15 v16 v17).line x = v2[x.val] := rfl

@[simp] theorem lines_getElem (s : State) (x : LineNo) (h : x.val < _) : s.lines[x.val]'h = s.line x := rfl

@[simp] theorem lane_mk (v0 : Nat) (v1 : Phase) (v2 : Vector LineRec 24) (v3 : Bool) (v4 : Vector LaneRec 4) (v5 : Vector Slot 32) (v6 : Vector TriggerFilter 4) (v7 : SyncUnit) (v8 : KillInput) (v9 : Receiver) (v10 : LinkSettings) (v11 : Transmitter) (v12 : Keepalive) (v13 : Proc) (v14 : List SetOff) (v15 : List Instr) (v16 : List Nat) (v17 : Nat)
    (x : LaneNo) : (State.mk v0 v1 v2 v3 v4 v5 v6 v7 v8 v9 v10 v11 v12 v13 v14 v15 v16 v17).lane x = v4[x.val] := rfl

@[simp] theorem lanes_getElem (s : State) (x : LaneNo) (h : x.val < _) : s.lanes[x.val]'h = s.lane x := rfl

@[simp] theorem slot_mk (v0 : Nat) (v1 : Phase) (v2 : Vector LineRec 24) (v3 : Bool) (v4 : Vector LaneRec 4) (v5 : Vector Slot 32) (v6 : Vector TriggerFilter 4) (v7 : SyncUnit) (v8 : KillInput) (v9 : Receiver) (v10 : LinkSettings) (v11 : Transmitter) (v12 : Keepalive) (v13 : Proc) (v14 : List SetOff) (v15 : List Instr) (v16 : List Nat) (v17 : Nat)
    (x : SlotNo) : (State.mk v0 v1 v2 v3 v4 v5 v6 v7 v8 v9 v10 v11 v12 v13 v14 v15 v16 v17).slot x = v5[x.val] := rfl

@[simp] theorem slots_getElem (s : State) (x : SlotNo) (h : x.val < _) : s.slots[x.val]'h = s.slot x := rfl

@[simp] theorem trigger_mk (v0 : Nat) (v1 : Phase) (v2 : Vector LineRec 24) (v3 : Bool) (v4 : Vector LaneRec 4) (v5 : Vector Slot 32) (v6 : Vector TriggerFilter 4) (v7 : SyncUnit) (v8 : KillInput) (v9 : Receiver) (v10 : LinkSettings) (v11 : Transmitter) (v12 : Keepalive) (v13 : Proc) (v14 : List SetOff) (v15 : List Instr) (v16 : List Nat) (v17 : Nat)
    (x : TrigNo) : (State.mk v0 v1 v2 v3 v4 v5 v6 v7 v8 v9 v10 v11 v12 v13 v14 v15 v16 v17).trigger x = v6[x.val] := rfl

@[simp] theorem triggers_getElem (s : State) (x : TrigNo) (h : x.val < _) : s.triggers[x.val]'h = s.trigger x := rfl

/-! ### Values at pin reset -/

@[simp] theorem line_reset (l : LineNo) : State.reset.line l = LineRec.reset := by
  simp [State.line, State.reset]

@[simp] theorem lane_reset (n : LaneNo) : State.reset.lane n = LaneRec.reset := by
  simp [State.lane, State.reset]

@[simp] theorem slot_reset (i : SlotNo) : State.reset.slot i = Slot.reset := by
  simp [State.slot, State.reset]

@[simp] theorem trigger_reset (i : TrigNo) : State.reset.trigger i = TriggerFilter.reset := by
  simp [State.trigger, State.reset]

end Sys2Proof.Machine
end

