-- ==== Sys2Proof/Laws/Lines.lean ====
section
/-! SUPPORT. What each act of a lane on its lines leaves of one line, and the readings those acts keep. -/

namespace Sys2Proof.Machine

/-- Table 1-4: a line that is named ends PENDING or ACTIVE. -/
theorem applied_named (now : Nat) (st : LineState) :
    st.applied now true = .active ∨ ∃ t, st.applied now true = .pending t := by
  cases st <;> simp [LineState.applied]

/-- Table 1-4: a line that is not named ends INACTIVE. -/
@[simp] theorem applied_unnamed (now : Nat) (st : LineState) : st.applied now false = .inactive := by
  cases st <;> rfl

/-- A pattern application makes no line ACTIVE that was not (R5). -/
theorem active_of_applied_active {now : Nat} {named : Bool} {st : LineState}
    (h : st.applied now named = .active) : st = .active := by
  cases st <;> cases named <;> simp_all [LineState.applied]

/-- Applying a set that is in force changes no line: the table is idempotent (R5). -/
theorem applied_twice (now later : Nat) (named : Bool) (st : LineState) :
    (st.applied now named).applied later named = st.applied now named := by
  cases st <;> cases named <;> rfl

/-- One line after a pattern application of lane n. -/
theorem line_applyPattern (s : State) (n : LaneNo) (p : LineSet) (l : LineNo) :
    (s.applyPattern n p).line l =
      if (s.line l).owner = some n then { s.line l with state := (s.line l).state.applied s.now (lineIn p l) } else s.line l := by
  simp [State.applyPattern]

/-- One line after a safe application of lane n. -/
theorem line_applySafe (s : State) (n : LaneNo) (l : LineNo) :
    (s.applySafe n).line l =
      if (s.line l).owner = some n then { s.line l with state := (s.line l).safeLevel.state } else s.line l := by
  simp [State.applySafe]

/-- One line after the first act of CLEAR_FAULT. -/
theorem line_clearLines (s : State) (n : LaneNo) (l : LineNo) :
    (s.clearLines n).line l =
      if (s.line l).owner = some n then { s.line l with state := .inactive } else s.line l := by
  simp [State.clearLines]

/-- One line after the releases and gains of CONFIG_LANE. -/
theorem line_assignLines (s : State) (n : LaneNo) (ls : LineSet) (l : LineNo) :
    (s.assignLines n ls).line l =
      if lineIn ls l = true then
        (if (s.line l).owner = some n then s.line l else { s.line l with owner := some n, state := .inactive })
      else (if (s.line l).owner = some n then { s.line l with owner := none, state := .float } else s.line l) := by
  simp [State.assignLines]

/-- The partner fields pass through every act of a lane on its lines. -/
@[simp] theorem partner_applyPattern (s : State) (n : LaneNo) (p : LineSet) (l : LineNo) :
    (s.applyPattern n p).partner l = s.partner l := by
  simp only [State.partner, line_applyPattern]; split <;> rfl

@[simp] theorem partner_applySafe (s : State) (n : LaneNo) (l : LineNo) : (s.applySafe n).partner l = s.partner l := by
  simp only [State.partner, line_applySafe]; split <;> rfl

@[simp] theorem partner_clearLines (s : State) (n : LaneNo) (l : LineNo) : (s.clearLines n).partner l = s.partner l := by
  simp only [State.partner, line_clearLines]; split <;> rfl

@[simp] theorem partner_assignLines (s : State) (n : LaneNo) (ls : LineSet) (l : LineNo) :
    (s.assignLines n ls).partner l = s.partner l := by
  simp only [State.partner, line_assignLines]; split <;> split <;> rfl

@[simp] theorem lane_applyPattern (s : State) (n m : LaneNo) (p : LineSet) : (s.applyPattern n p).lane m = s.lane m := rfl

@[simp] theorem lane_applyRest (s : State) (n m : LaneNo) : (s.applyRest n).lane m = s.lane m := rfl

@[simp] theorem lane_applySafe (s : State) (n m : LaneNo) : (s.applySafe n).lane m = s.lane m := rfl

@[simp] theorem lane_clearLines (s : State) (n m : LaneNo) : (s.clearLines n).lane m = s.lane m := rfl

@[simp] theorem lane_assignLines (s : State) (n m : LaneNo) (ls : LineSet) : (s.assignLines n ls).lane m = s.lane m := rfl

end Sys2Proof.Machine
end

