-- ==== Sys2Proof/Laws/LaneAct.lean ====
section
/-! SUPPORT. What the acts of one lane can do: `LaneAct n s t` says once everything that may differ between s and t when lane n alone has
acted, and each shared operation has one lemma that says it is such an act. -/

namespace Sys2Proof.Machine

/-- The blocks that no act of a lane touches. -/
structure Untouched (s t : State) : Prop where
  now : t.now = s.now
  phase : t.phase = s.phase
  triggers : t.triggers = s.triggers
  sync : t.sync = s.sync
  kill : t.kill = s.kill
  rx : t.rx = s.rx
  settings : t.settings = s.settings
  keepalive : t.keepalive = s.keepalive
  tx : t.tx = s.tx
  proc : t.proc = s.proc
  pending : t.pending = s.pending
  choices : t.choices = s.choices
  draws : t.draws = s.draws

theorem Untouched.refl (s : State) : Untouched s s := ⟨rfl, rfl, rfl, rfl, rfl, rfl, rfl, rfl, rfl, rfl, rfl, rfl, rfl⟩

theorem Untouched.trans {s t u : State} (a : Untouched s t) (b : Untouched t u) : Untouched s u :=
  ⟨b.now.trans a.now, b.phase.trans a.phase, b.triggers.trans a.triggers, b.sync.trans a.sync, b.kill.trans a.kill,
    b.rx.trans a.rx, b.settings.trans a.settings, b.keepalive.trans a.keepalive, b.tx.trans a.tx, b.proc.trans a.proc,
    b.pending.trans a.pending, b.choices.trans a.choices, b.draws.trans a.draws⟩

/-- What the acts of any lanes keep: the blocks they do not touch, every configuration record and next serial, every line's fields but its
state, every slot's fields but its use count, and what is in flight, behind which theirs joins. -/
structure LaneActs (s t : State) : Prop where
  untouched : Untouched s t
  config : ∀ m, (t.lane m).config = (s.lane m).config
  nextSerial : ∀ m, (t.lane m).nextSerial = (s.lane m).nextSerial
  line : ∀ l, t.line l = { s.line l with state := (t.line l).state }
  slot : ∀ i, t.slot i = { s.slot i with useCount := (t.slot i).useCount }
  setOff : ∃ es, t.setOff = s.setOff ++ es

theorem LaneActs.refl (s : State) : LaneActs s s :=
  ⟨Untouched.refl s, fun _ => rfl, fun _ => rfl, fun _ => rfl, fun _ => rfl, [], (List.append_nil _).symm⟩

theorem LaneActs.trans {s t u : State} (a : LaneActs s t) (b : LaneActs t u) : LaneActs s u where
  untouched := a.untouched.trans b.untouched
  config m := (b.config m).trans (a.config m)
  nextSerial m := (b.nextSerial m).trans (a.nextSerial m)
  line l := by rw [b.line l, a.line l]
  slot i := by rw [b.slot i, a.slot i]
  setOff := by
    obtain ⟨x, hx⟩ := a.setOff
    obtain ⟨y, hy⟩ := b.setOff
    exact ⟨x ++ y, by rw [hy, hx, List.append_assoc]⟩

/-- The owner, polarity, safe level and partner of a line pass through the acts of lanes. -/
theorem LaneActs.owner {s t : State} (a : LaneActs s t) (l : LineNo) : (t.line l).owner = (s.line l).owner := by
  rw [a.line l]

theorem LaneActs.safeLevel {s t : State} (a : LaneActs s t) (l : LineNo) : (t.line l).safeLevel = (s.line l).safeLevel := by
  rw [a.line l]

theorem LaneActs.partner {s t : State} (a : LaneActs s t) (l : LineNo) : t.partner l = s.partner l := by
  simp only [State.partner]; rw [a.line l]

/-- The states and steps of the library's slots pass through the acts of lanes. -/
theorem LaneActs.steps {s t : State} (a : LaneActs s t) (i : SlotNo) : (t.slot i).steps = (s.slot i).steps := by
  rw [a.slot i]

theorem LaneActs.slotState {s t : State} (a : LaneActs s t) (i : SlotNo) : (t.slot i).state = (s.slot i).state := by
  rw [a.slot i]

/-- What was in flight still is (R95, R99, R125, R136, R138). -/
theorem LaneActs.stands {s t : State} (a : LaneActs s t) {e : SetOff} (h : e ∈ s.setOff) : e ∈ t.setOff := by
  obtain ⟨es, he⟩ := a.setOff
  rw [he]
  exact List.mem_append_left _ h

/-- Lane n alone has acted: beside what `LaneActs` keeps, every other lane is as it was, and so is the state of every line that lane n does
not own (R29). -/
structure LaneAct (n : LaneNo) (s t : State) : Prop extends LaneActs s t where
  lane : ∀ m, m ≠ n → t.lane m = s.lane m
  lineElse : ∀ l, (s.line l).owner ≠ some n → t.line l = s.line l

theorem LaneAct.refl (n : LaneNo) (s : State) : LaneAct n s s :=
  { LaneActs.refl s with lane := fun _ _ => rfl, lineElse := fun _ _ => rfl }

theorem LaneAct.trans {n : LaneNo} {s t u : State} (a : LaneAct n s t) (b : LaneAct n t u) : LaneAct n s u :=
  { a.toLaneActs.trans b.toLaneActs with
    lane := fun m h => (b.lane m h).trans (a.lane m h)
    lineElse := fun l h => (b.lineElse l (by rw [a.owner l]; exact h)).trans (a.lineElse l h) }

/-- A change of lane n's own record that keeps its configuration and next serial. -/
theorem laneAct_updLane (s : State) (n : LaneNo) (f : LaneRec → LaneRec)
    (hc : (f (s.lane n)).config = (s.lane n).config) (hs : (f (s.lane n)).nextSerial = (s.lane n).nextSerial) :
    LaneAct n s (s.updLane n f) where
  untouched := ⟨rfl, rfl, rfl, rfl, rfl, rfl, rfl, rfl, rfl, rfl, rfl, rfl, rfl⟩
  config m := by
    rw [lane_updLane]; split
    · next h => rw [hc, h]
    · rfl
  nextSerial m := by
    rw [lane_updLane]; split
    · next h => rw [hs, h]
    · rfl
  line _ := rfl
  slot _ := rfl
  setOff := ⟨[], (List.append_nil _).symm⟩
  lane m h := lane_updLane_ne s n m f h
  lineElse _ _ := rfl

theorem laneAct_setLaneState (s : State) (n : LaneNo) (st : LaneState) : LaneAct n s (s.setLaneState n st) :=
  laneAct_updLane s n _ rfl rfl

/-- A change of the states of lane n's own lines. -/
theorem laneAct_mapLines (s : State) (n : LaneNo) (f : LineNo → LineRec → LineRec)
    (hf : ∀ l, f l (s.line l) = if (s.line l).owner = some n then { s.line l with state := (f l (s.line l)).state } else s.line l) :
    LaneAct n s (s.mapLines f) where
  untouched := ⟨rfl, rfl, rfl, rfl, rfl, rfl, rfl, rfl, rfl, rfl, rfl, rfl, rfl⟩
  config _ := rfl
  nextSerial _ := rfl
  line l := by
    rw [line_mapLines, hf l]; split <;> rfl
  slot _ := rfl
  setOff := ⟨[], (List.append_nil _).symm⟩
  lane _ _ := rfl
  lineElse l h := by rw [line_mapLines, hf l, if_neg h]

theorem laneAct_applyPattern (s : State) (n : LaneNo) (p : LineSet) : LaneAct n s (s.applyPattern n p) :=
  laneAct_mapLines s n _ fun l => by
    by_cases h : (s.line l).owner = some n <;> simp [h]

theorem laneAct_applyRest (s : State) (n : LaneNo) : LaneAct n s (s.applyRest n) := laneAct_applyPattern s n _

theorem laneAct_applySafe (s : State) (n : LaneNo) : LaneAct n s (s.applySafe n) :=
  laneAct_mapLines s n _ fun l => by
    by_cases h : (s.line l).owner = some n <;> simp [h]

theorem laneAct_clearLines (s : State) (n : LaneNo) : LaneAct n s (s.clearLines n) :=
  laneAct_mapLines s n _ fun l => by
    by_cases h : (s.line l).owner = some n <;> simp [h]

/-- A change of the use count of one slot. -/
theorem laneAct_updSlot (s : State) (n : LaneNo) (i : SlotNo) (f : Slot → Slot)
    (hf : f (s.slot i) = { s.slot i with useCount := (f (s.slot i)).useCount }) : LaneAct n s (s.updSlot i f) where
  untouched := ⟨rfl, rfl, rfl, rfl, rfl, rfl, rfl, rfl, rfl, rfl, rfl, rfl, rfl⟩
  config _ := rfl
  nextSerial _ := rfl
  line _ := rfl
  slot j := by
    rw [slot_updSlot]; split
    · next h => rw [h]; exact hf
    · rfl
  setOff := ⟨[], (List.append_nil _).symm⟩
  lane _ _ := rfl
  lineElse _ _ := rfl

theorem laneAct_releaseUse (s : State) (n : LaneNo) (b : EntryBody) : LaneAct n s (s.releaseUse b) := by
  cases b with
  | step _ => exact LaneAct.refl n s
  | play i _ => exact laneAct_updSlot s n i (fun x => { x with useCount := x.useCount - 1 }) rfl

theorem laneAct_raiseUse (s : State) (n : LaneNo) (b : EntryBody) : LaneAct n s (s.raiseUse b) := by
  cases b with
  | step _ => exact LaneAct.refl n s
  | play i _ => exact laneAct_updSlot s n i (fun x => { x with useCount := x.useCount + 1 }) rfl

/-- What a lane sets off joins what is in flight, and nothing else changes. -/
theorem laneAct_sets (s : State) (n : LaneNo) (es : List SetOff) : LaneAct n s (s.sets es) where
  untouched := ⟨rfl, rfl, rfl, rfl, rfl, rfl, rfl, rfl, rfl, rfl, rfl, rfl, rfl⟩
  config _ := rfl
  nextSerial _ := rfl
  line _ := rfl
  slot _ := rfl
  setOff := ⟨es, rfl⟩
  lane _ _ := rfl
  lineElse _ _ := rfl

/-- A report that is sent is on its way to the outbound queue, and nothing else changes (R167). -/
theorem laneAct_report (s : State) (n : LaneNo) (r : Report) : LaneAct n s (s.report r) := laneAct_sets s n _

theorem laneAct_tellState (s : State) (n m : LaneNo) (quiet : Bool) (c : Cause) : LaneAct n s (s.tellState m quiet c) := by
  cases quiet
  · exact laneAct_report s n _
  · exact LaneAct.refl n s

theorem laneAct_tellFollowers (s : State) (n m : LaneNo) : LaneAct n s (s.tellFollowers m) := laneAct_sets s n _

theorem laneAct_releaseAll (n : LaneNo) (es : List Entry) (s : State) :
    LaneAct n s (es.foldl (fun t e => t.releaseUse e.body) s) := by
  induction es generalizing s with
  | nil => exact LaneAct.refl n s
  | cons e es ih => exact (laneAct_releaseUse s n e.body).trans (ih _)

/-- The discard of lane n's queue (R43). -/
theorem laneAct_discardQueue (s : State) (n : LaneNo) : LaneAct n s (s.discardQueue n) :=
  (laneAct_releaseAll n (s.lane n).queue s).trans (laneAct_updLane _ n _ rfl rfl)

theorem laneAct_reportStep (s : State) (n : LaneNo) (c : Current) (o : StepOutcome) (e : Nat) :
    LaneAct n s (s.reportStep n c o e) := by
  unfold State.reportStep; split
  · exact laneAct_report s n _
  · exact LaneAct.refl n s

theorem laneAct_dropStep (s : State) (n : LaneNo) : LaneAct n s (s.dropStep n) := laneAct_updLane s n _ rfl rfl

/-- The end of lane n's current entry (R85). -/
theorem laneAct_endEntry (s : State) (n : LaneNo) (c : Current) (o : EntryOutcome) (p : Nat) :
    LaneAct n s (s.endEntry n c o p) := by
  unfold State.endEntry
  refine (laneAct_releaseUse s n c.entry.body).trans (LaneAct.trans ?_ (laneAct_updLane _ n _ rfl rfl))
  split
  · exact LaneAct.refl n _
  · exact laneAct_report _ n _

theorem laneAct_cutEntry (s : State) (n : LaneNo) (o : EntryOutcome) : LaneAct n s (s.cutEntry n o) := by
  unfold State.cutEntry; split
  · exact laneAct_endEntry s n _ o _
  · exact LaneAct.refl n s

theorem laneAct_cutStep (s : State) (n : LaneNo) : LaneAct n s (s.cutStep n) := by
  unfold State.cutStep; split
  · exact (laneAct_reportStep s n _ _ _).trans (laneAct_dropStep _ n)
  · exact laneAct_dropStep s n
  · exact LaneAct.refl n s

theorem laneAct_reportSafe (s : State) (n : LaneNo) (c : SafeCause) : LaneAct n s (s.reportSafe n c) := by
  unfold State.reportSafe; split
  · exact laneAct_report s n _
  · exact LaneAct.refl n s

theorem laneAct_faultN (s : State) (n : LaneNo) (b : Bool) : LaneAct n s { s with faultN := b } :=
  { LaneActs.refl s with
    untouched := ⟨rfl, rfl, rfl, rfl, rfl, rfl, rfl, rfl, rfl, rfl, rfl, rfl, rfl⟩
    config := fun _ => rfl, nextSerial := fun _ => rfl, line := fun _ => rfl, slot := fun _ => rfl
    setOff := ⟨[], (List.append_nil _).symm⟩, lane := fun _ _ => rfl, lineElse := fun _ _ => rfl }

/-- The stages of the entry of lane n to SAFE (R131). -/
theorem laneAct_safeStages (s : State) (n : LaneNo) (c : SafeCause) : LaneAct n s (s.safeStages n c) := by
  unfold State.safeStages
  exact (laneAct_cutStep s n).trans ((laneAct_cutEntry _ n _).trans ((laneAct_discardQueue _ n).trans
    ((laneAct_applySafe _ n).trans ((laneAct_setLaneState _ n .safe).trans
      ((laneAct_faultN _ n true).trans (laneAct_reportSafe _ n c))))))

/-- A cause of safe hold at lane n (R130). -/
theorem laneAct_enterSafe (s : State) (n : LaneNo) (c : SafeCause) : LaneAct n s (s.enterSafe n c) := by
  unfold State.enterSafe; split
  · exact LaneAct.refl n s
  · exact laneAct_safeStages s n c

theorem laneAct_goIdle (s : State) (n : LaneNo) : LaneAct n s (s.goIdle n) :=
  (laneAct_applyRest s n).trans (laneAct_setLaneState _ n .idle)

/-- Stage 7 (R88). -/
theorem laneAct_beginStep (s : State) (n : LaneNo) (c : Current) : LaneAct n s (s.beginStep n c) := by
  unfold State.beginStep
  refine LaneAct.trans (laneAct_updLane s n (fun r => { r with current := some c, state := .running }) rfl rfl) ?_
  dsimp only
  split
  · exact (laneAct_applyPattern _ n _).trans ((laneAct_updLane _ n _ rfl rfl).trans (laneAct_tellFollowers _ n n))
  · exact LaneAct.refl n _

/-- The queue head becomes the current entry, and its first step begins (R42, R73). -/
theorem laneAct_beginHead (s : State) (n : LaneNo) : LaneAct n s (s.beginHead n) := by
  unfold State.beginHead; split
  · exact LaneAct.trans (laneAct_updLane s n _ rfl rfl) (laneAct_beginStep _ n _)
  · exact LaneAct.refl n s

/-- Stages 6 and 7 (R87, R88). -/
theorem laneAct_nextStep (s : State) (n : LaneNo) (quiet : Bool) : LaneAct n s (s.nextStep n quiet) := by
  unfold State.nextStep; split
  · exact laneAct_beginStep s n _
  · exact laneAct_beginHead s n
  · split
    · exact (laneAct_setLaneState s n _).trans (laneAct_tellState _ n n _ _)
    · exact (laneAct_goIdle s n).trans (laneAct_tellState _ n n _ _)

/-- Stage 3 (R83). -/
theorem laneAct_stopHere (s : State) (n : LaneNo) (c : Current) (quiet : Bool) : LaneAct n s (s.stopHere n c quiet) := by
  unfold State.stopHere
  refine LaneAct.trans ?_ ((laneAct_goIdle _ n).trans (laneAct_tellState _ n n _ _))
  split
  · exact laneAct_endEntry s n c _ _
  · exact laneAct_endEntry s n c _ _

/-- Stage 4 (R84). -/
theorem laneAct_moveCursor (s : State) (n : LaneNo) (c : Current) : LaneAct n s (s.moveCursor n c) := by
  unfold State.moveCursor; split
  · exact laneAct_updLane s n _ rfl rfl
  · exact laneAct_endEntry s n c _ _

/-- Stage 5 (R86). -/
theorem laneAct_pauseHere (s : State) (n : LaneNo) (quiet : Bool) : LaneAct n s (s.pauseHere n quiet) :=
  (laneAct_setLaneState s n _).trans (laneAct_tellState _ n n _ _)

theorem laneAct_afterStep (s : State) (n : LaneNo) (c : Current) (o : StepOutcome) (quiet : Bool) :
    LaneAct n s (s.afterStep n c o quiet) := by
  unfold State.afterStep; split
  · exact laneAct_enterSafe s n _
  · split
    · exact laneAct_stopHere s n c quiet
    · split
      · exact (laneAct_moveCursor s n c).trans (laneAct_pauseHere _ n quiet)
      · exact (laneAct_moveCursor s n c).trans (laneAct_nextStep _ n quiet)

/-- The step boundary procedure of lane n (R80). -/
theorem laneAct_boundary (s : State) (n : LaneNo) (o : StepOutcome) (e : Nat) (quiet : Bool) :
    LaneAct n s (s.boundary n o e quiet) := by
  unfold State.boundary; split
  · exact (laneAct_reportStep s n _ o e).trans ((laneAct_dropStep _ n).trans (laneAct_afterStep _ n _ o quiet))
  · exact laneAct_dropStep s n

theorem laneAct_advanceBy (s : State) (n : LaneNo) (a : Advance) (o : StepOutcome) : LaneAct n s (s.advanceBy n a o) := by
  unfold State.advanceBy; split
  · split
    · exact laneAct_boundary s n o _ false
    · exact LaneAct.refl n s
  · exact LaneAct.refl n s

theorem laneAct_edgeAt (s : State) (n : LaneNo) (e : Edge) : LaneAct n s (s.edgeAt n e) := by
  unfold State.edgeAt; split
  · exact laneAct_advanceBy s n _ _
  · exact LaneAct.refl n s

theorem laneAct_syncLane (s : State) (n : LaneNo) : LaneAct n s (s.syncLane n) := by
  unfold State.syncLane; split
  · exact (laneAct_beginHead s n).trans (laneAct_tellState _ n n _ _)
  · exact LaneAct.refl n s

end Sys2Proof.Machine
end

