-- ==== Sys2Proof/Laws/SetOff.lean ====
section
/-! SUPPORT. What is in flight: what a choice picks, whose turn it is, and what taking one event can do. -/

namespace Sys2Proof.Machine

/-! ### Choices -/

/-- The element picked and those left are the list again, in some order. -/
theorem pick_perm {α : Type} (s : State) (x : α) (xs : List α) :
    ((s.pick x xs).1 :: (s.pick x xs).2.1).Perm (x :: xs) := by
  unfold State.pick
  cases xs with
  | nil => exact List.Perm.refl _
  | cons y ys =>
    dsimp only
    have hi : s.draw.1 % (x :: y :: ys).length < (x :: y :: ys).length := Nat.mod_lt _ (by simp)
    rw [List.getD_eq_getElem _ _ hi]
    exact List.getElem_cons_eraseIdx_perm hi

theorem pick_state {α : Type} (s : State) (x : α) (xs : List α) :
    (s.pick x xs).2.2 = s ∨ (s.pick x xs).2.2 = s.draw.2 := by
  unfold State.pick
  cases xs with
  | nil => exact Or.inl rfl
  | cons _ _ => exact Or.inr rfl

theorem pick_mem {α : Type} (s : State) (x : α) (xs : List α) : (s.pick x xs).1 ∈ x :: xs :=
  (pick_perm s x xs).subset List.mem_cons_self

/-- What happens on an empty queue is one of the happenings, and but for the draw of a choice the state is as it was. -/
theorem nextHappening_some {s t : State} {h : Happening} (e : s.nextHappening = some (h, t)) :
    h ∈ s.happenings ∧ (t = s ∨ t = s.draw.2) := by
  unfold State.nextHappening at e
  split at e
  · simp at e
  · next x xs hx =>
    simp only [Option.some.injEq, Prod.mk.injEq] at e
    obtain ⟨rfl, rfl⟩ := e
    exact ⟨hx ▸ pick_mem s x xs, pick_state s x xs⟩

/-- Nothing happens exactly when nothing is in flight whose turn it is and nothing is due. -/
theorem nextHappening_none {s : State} : s.nextHappening = none ↔ s.happenings = [] := by
  unfold State.nextHappening
  split <;> simp_all

/-! ### Whose turn it is -/

/-- The event waits for another exactly when one before it carries a report of the sender of its next report (R173). -/
theorem waitsFor_iff (e : SetOff) (before : List SetOff) :
    e.waitsFor before = true ↔ ∃ q, e.carried.head? = some q ∧ ∃ b ∈ before, ∃ r ∈ b.carried, r.source = q.source := by
  simp [SetOff.waitsFor, Option.any_eq_true]

/-- An event that carries no report never waits. -/
theorem waitsFor_of_bare {e : SetOff} (h : e.carried = []) (before : List SetOff) : e.waitsFor before = false := by
  simp [SetOff.waitsFor, h]

/-- An event whose turn it is stands in the list; those that then stand are the others, in their order, and what it leaves of itself. -/
theorem mem_takeable {before es : List SetOff} {e : SetOff} {standing : List SetOff} (h : (e, standing) ∈ takeable before es) :
    ∃ us vs, es = us ++ e :: vs ∧ e.waitsFor (before ++ us) = false ∧ standing = before ++ us ++ e.left ++ vs := by
  induction es generalizing before with
  | nil => simp [takeable] at h
  | cons x xs ih =>
    rw [takeable, List.mem_append] at h
    rcases h with h | h
    · split at h
      · simp at h
      · next hw =>
        simp only [List.mem_singleton, Prod.mk.injEq] at h
        obtain ⟨rfl, rfl⟩ := h
        exact ⟨[], xs, rfl, by simpa using hw, by simp⟩
    · obtain ⟨us, vs, rfl, hw, rfl⟩ := ih h
      exact ⟨x :: us, vs, rfl, by simpa using hw, by simp⟩

/-- An event that waits for none before it may be taken, and those that then stand are the others and what it leaves of itself. -/
theorem takeable_of_turn {before us vs : List SetOff} {e : SetOff} (h : e.waitsFor (before ++ us) = false) :
    (e, before ++ us ++ e.left ++ vs) ∈ takeable before (us ++ e :: vs) := by
  induction us generalizing before with
  | nil => simp_all [takeable]
  | cons x xs ih =>
    have := ih (before := before ++ [x]) (by simpa using h)
    rw [List.cons_append, takeable, List.mem_append]
    exact Or.inr (by simpa using this)

/-- The first event in flight is never kept from its turn, so something happens while anything is in flight. -/
theorem takeable_ne_nil (e : SetOff) (es : List SetOff) : takeable [] (e :: es) ≠ [] := by
  simp [takeable, SetOff.waitsFor]

/-- Of an event that carries no report nothing is left. -/
theorem left_of_bare {e : SetOff} (h : e.carried = []) : e.left = [] := by
  cases e with
  | reports rs => cases rs with
    | nil => rfl
    | cons _ _ => simp [SetOff.carried] at h
  | _ => rfl

/-- An event other than the one taken still stands. -/
theorem stands_of_takeable {es standing : List SetOff} {e d : SetOff} (h : (e, standing) ∈ takeable [] es) (hd : d ∈ es) (hne : d ≠ e) :
    d ∈ standing := by
  obtain ⟨us, vs, rfl, -, rfl⟩ := mem_takeable h
  simp only [List.nil_append, List.mem_append, List.mem_cons] at hd ⊢
  rcases hd with hd | rfl | hd
  · exact Or.inl (Or.inl hd)
  · exact absurd rfl hne
  · exact Or.inr hd

/-! ### Taking one -/

/-- A report that is offered changes the Link Transmitter alone (R152). -/
theorem offer_tx (s : State) (r : Report) : s.offer r = { s with tx := (s.offer r).tx } := by
  unfold State.offer; split <;> rfl

/-- Reports offered one after the other change the Link Transmitter alone. -/
theorem offers_tx (rs : List Report) (s : State) : rs.foldl State.offer s = { s with tx := (rs.foldl State.offer s).tx } := by
  induction rs generalizing s with
  | nil => rfl
  | cons r rs ih =>
    rw [List.foldl_cons, ih, offer_tx s r]

/-- Of the whole part, `offerAll` changes the Link Transmitter, and takes the reports out of what is in flight. -/
theorem offerAll_eq (s : State) :
    s.offerAll = { s with tx := s.offerAll.tx, setOff := s.setOff.filter fun e => e.carried.isEmpty } := by
  unfold State.offerAll
  rw [offers_tx]

/-- Taking one event is an act of the lane it is for, or the offer of a report. -/
theorem take_cases (s : State) (e : SetOff) : (∃ n, LaneAct n s (s.take e)) ∨ ∃ r, s.take e = s.offer r := by
  cases e with
  | leaderBoundary m => exact Or.inl ⟨m, laneAct_advanceBy s m _ _⟩
  | edge n e => exact Or.inl ⟨n, laneAct_edgeAt s n e⟩
  | syncEdge n => exact Or.inl ⟨n, laneAct_syncLane s n⟩
  | safe n c => exact Or.inl ⟨n, laneAct_enterSafe s n c⟩
  | reports rs => cases rs with
    | nil => exact Or.inl ⟨0, LaneAct.refl 0 s⟩
    | cons r _ => exact Or.inr ⟨r, rfl⟩

/-- A lane with no step in progress past its blanking is left as it is by the boundary event of its leader (R24, Table 6-3). -/
theorem take_leaderBoundary_unmoved {s : State} {m : LaneNo} (h : ∀ r, (s.lane m).run = some r → r.pastBlanking = false) :
    s.take (.leaderBoundary m) = s := by
  simp only [State.take, State.advanceBy]
  split
  · next r hr => simp [h r hr]
  · rfl

theorem holds_iff {n : LaneNo} {e : SetOff} : e.holds n = true ↔ ∃ c, e = .safe n c := by
  cases e with
  | safe m c => simp [SetOff.holds]
  | _ => simp [SetOff.holds]

theorem blocks_iff {n : LaneNo} {e : SetOff} : e.blocks n = true ↔ ∃ a p, e = .safe n (.interlock a p) := by
  cases e with
  | safe m c => cases c <;> simp [SetOff.blocks]
  | _ => simp [SetOff.blocks]

/-- With no event of the kind in flight, nothing comes first. -/
theorem takeFirst_of_none {s : State} {p : SetOff → Bool} (h : ∀ e ∈ s.setOff, p e = false) : s.takeFirst p = s := by
  have : s.setOff.find? p = none := List.find?_eq_none.2 fun e he => by simp [h e he]
  simp [State.takeFirst, this]

/-- The first event of the kind is taken, and the others stand. -/
theorem takeFirst_of_first {s : State} {p : SetOff → Bool} {before after : List SetOff} {e : SetOff}
    (h : s.setOff = before ++ e :: after) (hb : ∀ d ∈ before, p d = false) (he : p e = true) :
    s.takeFirst p = State.take { s with setOff := before ++ after } e := by
  have hf : s.setOff.find? p = some e := by
    rw [h, List.find?_append, List.find?_eq_none.2 (fun d hd => by simp [hb d hd])]
    simp [he]
  have hn : e ∉ before := fun hm => by simp [hb e hm] at he
  have hr : s.setOff.erase e = before ++ after := by
    rw [h, List.erase_append_right _ hn, List.erase_cons_head]
  simp [State.takeFirst, hf, hr]

/-- All that coming first can do: nothing, or the taking of one event of the kind. -/
theorem takeFirst_cases (s : State) (p : SetOff → Bool) : s.takeFirst p = s
    ∨ ∃ e ∈ s.setOff, p e = true ∧ s.takeFirst p = State.take { s with setOff := s.setOff.erase e } e := by
  unfold State.takeFirst
  split
  · next e h => exact Or.inr ⟨e, List.mem_of_find?_eq_some h, List.find?_some h, rfl⟩
  · exact Or.inl rfl

/-- With no cause of safe hold on its way to lane n, none comes first (R36). -/
theorem takeFirst_holds_of_none {s : State} {n : LaneNo} (h : ∀ c, SetOff.safe n c ∉ s.setOff) : s.takeFirst (SetOff.holds n) = s := by
  refine takeFirst_of_none fun e he => ?_
  by_contra hc
  obtain ⟨c, rfl⟩ := holds_iff.1 (by simpa using hc)
  exact h c he

/-- With no interlock block on its way to a lane of the list, none comes first (R76). -/
theorem takeFirst_blocks_of_none {ns : List LaneNo} {s : State} (h : ∀ n ∈ ns, ∀ a p, SetOff.safe n (.interlock a p) ∉ s.setOff) :
    ns.foldl (fun t n => t.takeFirst (SetOff.blocks n)) s = s := by
  induction ns with
  | nil => rfl
  | cons n ns ih =>
    have hn : s.takeFirst (SetOff.blocks n) = s := by
      refine takeFirst_of_none fun e he => ?_
      by_contra hc
      obtain ⟨a, p, rfl⟩ := blocks_iff.1 (by simpa using hc)
      exact h n List.mem_cons_self a p he
    rw [List.foldl_cons, hn, ih fun m hm => h m (List.mem_cons_of_mem n hm)]

end Sys2Proof.Machine
end

