-- ==== Sys2Proof/Laws/Due.lean ====
section
/-! SUPPORT. When a timer, a filter or the link is ready: each condition that a meaning tests as a Bool, said once as the proposition it
decides. -/

namespace Sys2Proof.Machine

theorem isHeld_iff (s : State) : s.isHeld = true ↔ s.phase = .held := beq_iff_eq

/-- n bit times have passed in t base periods (R142, log entry 5). -/
theorem bitsIn_iff (r : Rate) (n t : Nat) : r.bitsIn n t = true ↔ n * 10000000 ≤ t * r.bps := decide_eq_true_iff

theorem charBits_eq (p : Parity) : p.charBits = if p = .none then 10 else 11 := by cases p <;> rfl

/-- The pin of a trigger input can have stood at another level for 0.2 µs (R94). -/
theorem triggerSteady_iff (s : State) (i : TrigNo) : s.triggerSteady i = true ↔ (s.trigger i).since + 2 ≤ s.now := decide_eq_true_iff

/-- SYNC_N can have stood at another level for 0.2 µs (R124). -/
theorem syncSteady_iff (s : State) : s.syncSteady = true ↔ s.sync.since + 2 ≤ s.now := decide_eq_true_iff

/-- SYNC_N can have stood high for 0.2 µs (R124). -/
theorem syncFree_iff (s : State) :
    s.syncFree = true ↔ (s.sync.drive = .idle ∨ s.sync.drive = .driving 20) ∧ s.sync.releasedAt + 2 ≤ s.now := by
  simp only [State.syncFree, Bool.and_eq_true, Bool.or_eq_true, beq_iff_eq]
  exact and_congr Iff.rfl decide_eq_true_iff

/-- KILL_N can have stood at another level for 1 µs (R135). -/
theorem killSteady_iff (s : State) : s.killSteady = true ↔ s.kill.since + 10 ≤ s.now := decide_eq_true_iff

/-- Of a receiver that waits after a framing error: one bit time and so many characters have passed since (R143). -/
theorem hearsStart_iff (s : State) (chars : Nat) : s.hearsStart chars = true ↔ ∀ t, s.rx.quietFrom = some t →
    (1 + chars * s.settings.parity.charBits) * 10000000 ≤ (s.now - t) * s.settings.rate.bps := by
  unfold State.hearsStart
  split
  · next t h => simp [h, bitsIn_iff]
  · next h => simp [h]

theorem running_iff (k : Keepalive) : k.running = true ↔ k.window ≠ 0 ∧ k.latch = false := by
  simp [Keepalive.running]

theorem startUpDue_iff (s : State) : s.startUpDue = true ↔ ∃ t, s.phase = .starting t ∧ t + 10000 ≤ s.now := by
  unfold State.startUpDue
  split
  · next t h => simp only [h, Phase.starting.injEq, exists_eq_left']; exact decide_eq_true_iff
  · next h => simp; exact fun t ht => absurd ht (h t)

theorem endTimerDue_iff (s : State) (n : LaneNo) : s.endTimerDue n = true ↔ ∃ r, (s.lane n).run = some r ∧ r.step.advance = .time
    ∧ r.startedAt + r.step.duration * 2 ^ (s.lane n).config.tickExp ≤ s.now := by
  unfold State.endTimerDue State.ticksReached LaneConfig.ticks
  split <;> simp_all

theorem blankingDue_iff (s : State) (n : LaneNo) : s.blankingDue n = true ↔ ∃ r, (s.lane n).run = some r ∧ r.step.advance ≠ .time
    ∧ r.pastBlanking = false ∧ r.startedAt + (s.lane n).config.blanking * 2 ^ (s.lane n).config.tickExp ≤ s.now := by
  unfold State.blankingDue State.ticksReached LaneConfig.ticks
  split <;> simp_all [and_assoc]

theorem timeoutDue_iff (s : State) (n : LaneNo) : s.timeoutDue n = true ↔ ∃ r, (s.lane n).run = some r ∧ r.step.advance ≠ .time
    ∧ r.startedAt + r.step.duration * 2 ^ (s.lane n).config.tickExp ≤ s.now := by
  unfold State.timeoutDue State.ticksReached LaneConfig.ticks
  split <;> simp_all

theorem guardDue_iff (s : State) (l : LineNo) : s.guardDue l = true ↔ ∃ since n, (s.line l).state = .pending since
    ∧ (s.line l).owner = some n ∧ since + (s.lane n).config.guard ≤ s.now := by
  unfold State.guardDue
  split <;> simp_all

/-- 20 character times have passed in a frame without a further character (R147). -/
theorem gapDue_iff (s : State) : s.gapDue = true ↔
    s.rx.char = none ∧ ∃ buffer gap, s.rx.state = .inFrame buffer gap ∧ 20 * (110 * 10000000) ≤ gap := by
  unfold State.gapDue gapLimit gapUnit Config.basePerSecond
  split
  · next h1 h2 => simp [h1, h2]
  · next h =>
    simp only [Bool.false_eq_true, false_iff, not_and, not_exists]
    intro hc b g hs
    exact absurd hc (h b g hs)

theorem takeDue_iff (s : State) : s.takeDue = true ↔
    s.proc = .idle ∧ s.rx.inbound ≠ [] ∧ s.tx.queue.length < 8 ∧ s.phase = .started := by
  unfold State.takeDue State.held Config.outboundDepth
  by_cases h : s.proc = .idle <;> simp [h, and_assoc]

/-- Every bit of the message at the head has been sent (R151). -/
theorem transmitted_iff (s : State) : s.transmitted = true ↔ ∃ m rest x, s.tx.queue = m :: rest ∧ s.tx.sending = some x
    ∧ m.frame.size * x.settings.parity.charBits * 10000000 ≤ (s.now - x.startedAt) * x.settings.rate.bps := by
  unfold State.transmitted
  split
  · next h1 h2 => simp [h1, h2, bitsIn_iff]
  · next h =>
    simp only [Bool.false_eq_true, false_iff, not_exists, not_and]
    intro m rest x h1 h2
    exact absurd h2 (h m rest x h1)

/-- This part's own pulse has held SYNC_N low for 0.2 µs (R124, R127, log entry 9). -/
theorem ownPulseSeen_iff (s : State) : s.ownPulseSeen = true ↔
    s.phase ≠ .held ∧ s.sync.since + 2 ≤ s.now ∧ ∃ r, s.sync.drive = .driving r ∧ r + 2 ≤ 20 := by
  unfold State.ownPulseSeen State.isHeld Config.edgeFilter Config.pulseLength
  split <;> simp_all [and_assoc, syncSteady_iff]

theorem mem_whenDue {b : Bool} {i c : Instr} : c ∈ whenDue b i ↔ b = true ∧ c = i := by
  unfold whenDue; split <;> simp_all

/-- The event of the frame in execution is due, or its completion is (R159). -/
theorem mem_commandDue {s : State} {c : Instr} : c ∈ s.commandDue ↔ ∃ x, s.proc = .executing x
    ∧ ((∃ a, x.answer = some a ∧ x.completeAt ≤ s.now ∧ c = .commandCompletion)
      ∨ (x.answer = none ∧ decodeFrame x.frame = .ok c ∧ x.eventAt ≤ s.now)) := by
  unfold State.commandDue
  cases hp : s.proc with
  | idle => simp
  | executing x =>
    dsimp only
    cases ha : x.answer with
    | some a =>
      dsimp only
      by_cases hx : x.completeAt ≤ s.now <;> simp [hx, ha]
    | none =>
      dsimp only
      cases hd : decodeFrame x.frame with
      | error e => simp [ha, hd]
      | ok d => by_cases hx : x.eventAt ≤ s.now <;> simp [hx, ha, hd, eq_comm]

end Sys2Proof.Machine
end

