-- ==== Sys2Proof/Laws/Frames.lean ====
section
/-! SUPPORT. Reading a frame undoes building it, field by field: each lemma is one field of chapter 12. -/

namespace Sys2Proof

@[simp] theorem halfOf_high_low (h : Half) : halfOf (Half.high h) (Half.low h) = h := by
  apply BitVec.eq_of_getLsbD_eq
  intro i hi
  simp only [halfOf, Half.high, Half.low, BitVec.getLsbD_append, BitVec.getLsbD_extractLsb']
  by_cases h8 : i < 8
  · simp [h8]
  · have : 8 + (i - 8) = i := by omega
    have h16 : i - 8 < 8 := by omega
    simp [h8, this, h16]

@[simp] theorem high_halfOf (a b : Byte) : Half.high (halfOf a b) = a := by
  apply BitVec.eq_of_getLsbD_eq
  intro i hi
  have h8 : ¬ 8 + i < 8 := by omega
  simp only [halfOf, Half.high, BitVec.getLsbD_extractLsb', BitVec.getLsbD_append, h8, if_false, Nat.add_sub_cancel_left, hi,
    decide_true, Bool.true_and]

@[simp] theorem low_halfOf (a b : Byte) : Half.low (halfOf a b) = b := by
  apply BitVec.eq_of_getLsbD_eq
  intro i hi
  simp only [halfOf, Half.low, BitVec.getLsbD_extractLsb', BitVec.getLsbD_append, Nat.zero_add, hi, if_true,
    decide_true, Bool.true_and]

@[simp] theorem lineSetOf_bytes (s : LineSet) :
    lineSetOf (s.extractLsb' 16 8) (s.extractLsb' 8 8) (s.extractLsb' 0 8) = s := by
  apply BitVec.eq_of_getLsbD_eq
  intro i hi
  simp only [lineSetOf, BitVec.getLsbD_append, BitVec.getLsbD_extractLsb']
  by_cases h8 : i < 8
  · simp [h8]
  · by_cases h16 : i - 8 < 8
    · have : 8 + (i - 8) = i := by omega
      simp [h8, h16, this]
    · have h24 : i - 8 - 8 < 8 := by omega
      have : 16 + (i - 8 - 8) = i := by omega
      simp [h8, h16, h24, this]

@[simp] theorem toNat_byteOf {n : Nat} (h : n < 256) : (byteOf n).toNat = n := by
  simp only [byteOf, BitVec.toNat_ofNat]; omega

@[simp] theorem laneOf_byteOf (n : LaneNo) : laneOf (byteOf n.val) = .ok n := by
  have h := n.isLt
  have hb : (byteOf n.val).toNat = n.val := toNat_byteOf (by omega)
  unfold laneOf
  rw [dif_pos (by omega)]
  congr 1
  exact Fin.ext hb

@[simp] theorem laneSetOf_byte (s : LaneSet) : laneSetOf (LaneSet.byte s) = .ok s := by
  unfold laneSetOf LaneSet.byte
  have h := s.isLt
  have ht : (s.setWidth 8).toNat = s.toNat := by
    rw [BitVec.toNat_setWidth]; omega
  rw [if_pos (by omega)]
  congr 1
  apply BitVec.eq_of_toNat_eq
  rw [BitVec.toNat_setWidth, ht]; omega

/-- The bytes of `n` steps are read back as those steps, exactly (R175). -/
theorem readSteps_bytes (ss : List RawStep) : readSteps ss.length (ss.flatMap RawStep.bytes) = some ss := by
  induction ss with
  | nil => rfl
  | cons s ss ih =>
    simp [RawStep.bytes, LineSet.bytes, Half.bytes, readSteps, ih]

/-- One entry's seven bytes are read back as that entry, when its kind is what its form says (R175). -/
theorem entryOf_bytes (e : RawEntry) (h : e.wf = true) :
    ∃ k b1 b2 b3 b4 b5 b6, e.bytes = [k, b1, b2, b3, b4, b5, b6] ∧ entryOf k b1 b2 b3 b4 b5 b6 = e := by
  cases e with
  | step s => exact ⟨_, _, _, _, _, _, _, rfl, by simp [entryOf]⟩
  | play id r => exact ⟨_, _, _, _, _, _, _, rfl, by simp [entryOf]⟩
  | unknown k =>
    simp only [RawEntry.wf, ne_eq, Bool.and_eq_true, decide_eq_true_eq] at h
    exact ⟨_, _, _, _, _, _, _, rfl, by rw [entryOf, if_neg h.1, if_neg h.2]⟩

/-- The bytes of `n` entries are read back as those entries, exactly (R175). -/
theorem readEntries_bytes (es : List RawEntry) (h : es.all RawEntry.wf = true) :
    readEntries es.length (es.flatMap RawEntry.bytes) = some es := by
  induction es with
  | nil => rfl
  | cons e es ih =>
    simp only [List.all_cons, Bool.and_eq_true] at h
    obtain ⟨k, b1, b2, b3, b4, b5, b6, hb, he⟩ := entryOf_bytes e h.1
    simp [hb, readEntries, he, ih h.2]

/-- An entry takes seven bytes and a step six (R175). -/
@[simp] theorem length_entry_bytes (e : RawEntry) : e.bytes.length = 7 := by
  cases e <;> rfl

@[simp] theorem length_step_bytes (s : RawStep) : s.bytes.length = 6 := rfl

theorem length_entries (es : List RawEntry) : (es.flatMap RawEntry.bytes).length = 7 * es.length := by
  induction es with
  | nil => rfl
  | cons e es ih => simp [ih]; omega

theorem length_steps (ss : List RawStep) : (ss.flatMap RawStep.bytes).length = 6 * ss.length := by
  induction ss with
  | nil => rfl
  | cons s ss ih => simp [ih]; omega

/-- A frame's bytes number its payload and six more (R144). -/
theorem length_frame_bytes (f : Frame) : f.bytes.length = f.size := by
  simp [Frame.bytes, Frame.body, Frame.size, Half.bytes]

/-- What the general checks read out of a frame is a command, never an event (R160). -/
theorem decodeFrame_command {f : Frame} {c : Instr} (h : decodeFrame f = .ok c) : c.kindAndPayload.isSome = true := by
  have hl {α : Type} (e : Except ResultCode α) (g : α → Instr) (hg : ∀ a, (g a).kindAndPayload.isSome = true)
      (h : e.map g = .ok c) : c.kindAndPayload.isSome = true := by
    cases e with
    | error _ => cases h
    | ok a => cases h; exact hg a
  unfold decodeFrame at h
  simp only [decodeBare, decodeLane, decodeGetStatus, decodeSetLink, decodeConfigLine, decodeSetPair, decodeClearPair, decodeConfigLane,
    decodeEnqueue, decodeStart, decodeOpenSeq, decodeAppendSeq, decodeDeleteSeq, decodeStop, decodeAmend, decodeAbort] at h
  repeat' split at h
  all_goals first
    | (cases h; done)
    | exact hl _ _ (fun _ => rfl) h
    | (cases h; rfl)

end Sys2Proof
end

