-- ==== Sys2Proof/Laws/Link.lean ====
section
/-! SUPPORT. The outbound queue, the counters and the receiver: what an admission, an offer and a received byte do. -/

namespace Sys2Proof.Machine

theorem saturate_le (top n : Nat) : saturate top n ≤ top := by
  unfold saturate; split <;> omega

theorem saturate_below {top n : Nat} (h : n < top) : saturate top n = n + 1 := by
  simp [saturate, h]

theorem saturate_full {top : Nat} : saturate top top = top := by
  simp [saturate]

/-- A message that is admitted joins the tail (R151). -/
@[simp] theorem queue_post (s : State) (m : Message) : (s.post m).tx.queue = s.tx.queue ++ [m] := rfl

@[simp] theorem loss_post (s : State) (m : Message) : (s.post m).tx.loss = s.tx.loss := rfl

/-- A message admitted while another is in transmission leaves that transmission as it is; otherwise it begins at once, at the settings in
force (R151). -/
@[simp] theorem sending_post (s : State) (m : Message) :
    (s.post m).tx.sending = some (s.tx.sending.getD ⟨s.now, s.settings⟩) := rfl

@[simp] theorem held_post (s : State) (m : Message) : (s.post m).held = s.held + 1 := by
  simp [State.held, Nat.add_right_comm]

/-- The count of messages held depends on the outbound queue and the Command Processor alone (R158). -/
theorem held_congr {s t : State} (hq : t.tx.queue.length = s.tx.queue.length) (hp : t.proc = s.proc) : t.held = s.held := by
  simp [State.held, hq, hp]

/-- A report with room: it joins the tail with the losses before it, and the count returns to 0 (R152). -/
theorem offer_of_room {s : State} {r : Report} (h : s.held < 6) :
    s.offer r = State.post { s with tx := { s.tx with loss := 0 } } (.report s.tx.loss r) := by
  simp [State.offer, Config.reportLimit, h]

/-- A report without room: it is lost and counted (R152). -/
theorem offer_of_full {s : State} {r : Report} (h : 6 ≤ s.held) :
    s.offer r = { s with tx := { s.tx with loss := saturate 255 s.tx.loss } } := by
  simp [State.offer, Config.reportLimit, Config.lossMax, Nat.not_lt.2 h]

/-- A report raises the messages held by at most one, and never above 6 (R152). -/
theorem held_offer (s : State) (r : Report) : (s.offer r).held = if s.held < 6 then s.held + 1 else s.held := by
  split
  · next h => rw [offer_of_room h, held_post]; rfl
  · next h => rw [offer_of_full (Nat.not_lt.1 h)]; rfl

theorem loss_offer (s : State) (r : Report) :
    (s.offer r).tx.loss = if s.held < 6 then 0 else saturate 255 s.tx.loss := by
  split
  · next h => rw [offer_of_room h]; rfl
  · next h => rw [offer_of_full (Nat.not_lt.1 h)]

/-- What an offer does to the Transmitter depends on the Transmitter, the Command Processor, the time and the link settings alone. -/
theorem tx_offer_congr {s t : State} (htx : t.tx = s.tx) (hp : t.proc = s.proc) (hn : t.now = s.now) (hs : t.settings = s.settings)
    (r : Report) : (t.offer r).tx = (s.offer r).tx := by
  have hh : t.held = s.held := held_congr (by rw [htx]) hp
  simp only [State.offer, hh]
  split <;> simp [htx, hn, hs, State.post]

/-- A valid frame with room inbound joins the tail of the inbound queue (R148). -/
theorem handOn_of_room {s : State} {f : Frame} (h : s.rx.inbound.length < 4) :
    s.handOn f = { s with rx := { s.rx with inbound := s.rx.inbound ++ [f] } } := by
  simp [State.handOn, Config.inboundDepth, h]

/-- Without room inbound but with room outbound it is answered INBOUND_FULL (R148). -/
theorem handOn_of_full {s : State} {f : Frame} (h : 4 ≤ s.rx.inbound.length) (ho : s.held < 8) :
    s.handOn f = s.post (.reply f.kind f.tag ⟨.inboundFull, .none, none⟩) := by
  simp [State.handOn, Config.inboundDepth, Config.outboundDepth, Nat.not_lt.2 h, ho]

/-- Without room on either side it is dropped and counted (R148). -/
theorem handOn_of_dropped {s : State} {f : Frame} (h : 4 ≤ s.rx.inbound.length) (ho : 8 ≤ s.held) :
    s.handOn f = s.count LinkCounters.addDropped := by
  simp [State.handOn, Config.inboundDepth, Config.outboundDepth, Nat.not_lt.2 h, Nat.not_lt.2 ho]

/-- While hunting, a sync byte starts a frame, and any other byte is discarded (R146). -/
theorem receiveByte_hunting {s : State} (h : s.rx.state = .hunting) (b : Byte) :
    s.receiveByte b = if b = 0xC5 then { s with rx := { s.rx with state := .inFrame [] 0 } } else s := by
  simp [State.receiveByte, h]

/-- In a frame, a byte joins the assembly buffer (R146). -/
theorem receiveByte_inFrame {s : State} {buf : List Byte} {gap : Nat} (h : s.rx.state = .inFrame buf gap) (b : Byte) :
    s.receiveByte b = s.assemble (buf ++ [b]) := by
  simp [State.receiveByte, h]

/-- A command the Processor is executing, its event not yet taken: the event is its effect, and its answer is kept for the reply (R159). -/
theorem command_awaited {s : State} {c : Instr} {x : Execution} (hp : s.proc = .executing x) (hx : x.awaits c = true)
    (effect : State → State × Answer) :
    s.command c effect = .next { (effect s).1 with proc := .executing { x with answer := some (effect s).2 } } := by
  simp [State.command, hp, hx]

/-- Any other command row is no event (log entry 1). -/
theorem command_other {s : State} {c : Instr} (h : ∀ x, s.proc = .executing x → x.awaits c = false)
    (effect : State → State × Answer) : s.command c effect = .next s := by
  unfold State.command
  split
  · next x hx => rw [if_neg (by simp [h x hx])]
  · rfl

/-- A command row always has a next state. -/
theorem command_next (s : State) (c : Instr) (effect : State → State × Answer) : ∃ t, s.command c effect = .next t := by
  unfold State.command
  split
  · split
    · exact ⟨_, rfl⟩
    · exact ⟨_, rfl⟩
  · exact ⟨_, rfl⟩

end Sys2Proof.Machine
end

