-- ==== Sys2Proof/Laws/PerInstr.lean ====
section
/-! SUPPORT. The family Fits: the payload of every well-formed command fits in a frame (R144, Table 12-3). One lemma for each row of the opcode
table; a row that is no command has no payload. -/

namespace Sys2Proof.Laws.Fits

/-- A well-formed command's payload has at most 240 bytes. -/
def Statement (i : Instr) : Prop := i.wf = true → ∀ k p, i.kindAndPayload = some (k, p) → p.length ≤ 240

/-- A payload of a stated size fits. -/
theorem of_length {i : Instr} {n : Nat} (hn : n ≤ 240)
    (h : ∀ k p, i.kindAndPayload = some (k, p) → p.length = n) : Statement i :=
  fun _ k p hp => by rw [h k p hp]; exact hn

/-- A row that is no command has no payload. -/
theorem of_none {i : Instr} (h : i.kindAndPayload = none) : Statement i := by
  intro _ k p hp
  rw [h] at hp
  exact absurd hp (by simp)

theorem identify : Statement .identify :=
  of_length (n := 0) (by decide) (by rintro k p ⟨⟩; rfl)

theorem ping : Statement .ping :=
  of_length (n := 0) (by decide) (by rintro k p ⟨⟩; rfl)

theorem getStatus (scope argument : Byte) : Statement (.getStatus scope argument) :=
  of_length (n := 2) (by decide) (by rintro k p ⟨⟩; rfl)

theorem setLink (rate parity : Byte) (window : Half) : Statement (.setLink rate parity window) :=
  of_length (n := 4) (by decide) (by rintro k p ⟨⟩; rfl)

theorem reinit : Statement .reinit :=
  of_length (n := 0) (by decide) (by rintro k p ⟨⟩; rfl)

theorem configLine (line polarity safeLevel : Byte) : Statement (.configLine line polarity safeLevel) :=
  of_length (n := 3) (by decide) (by rintro k p ⟨⟩; rfl)

theorem setPair (a b : Byte) : Statement (.setPair a b) :=
  of_length (n := 2) (by decide) (by rintro k p ⟨⟩; rfl)

theorem clearPair (a : Byte) : Statement (.clearPair a) :=
  of_length (n := 1) (by decide) (by rintro k p ⟨⟩; rfl)

theorem configLane (lane : LaneNo) (config : RawConfig) : Statement (.configLane lane config) :=
  of_length (n := 16) (by decide) (by rintro k p ⟨⟩; rfl)

theorem enqueue (lane : LaneNo) (entries : List RawEntry) : Statement (.enqueue lane entries) := by
  intro hw k p hp
  simp only [Instr.wf, Bool.and_eq_true, decide_eq_true_eq] at hw
  simp only [Instr.kindAndPayload, Option.some.injEq, Prod.mk.injEq] at hp
  rw [← hp.2, List.length_append, length_entries]
  simp only [List.length_cons, List.length_nil]
  omega

theorem start (lanes : LaneSet) (mode : Byte) : Statement (.start lanes mode) :=
  of_length (n := 2) (by decide) (by rintro k p ⟨⟩; rfl)

theorem openSeq (id length : Byte) : Statement (.openSeq id length) :=
  of_length (n := 2) (by decide) (by rintro k p ⟨⟩; rfl)

theorem appendSeq (id offset : Byte) (steps : List RawStep) : Statement (.appendSeq id offset steps) := by
  intro hw k p hp
  simp only [Instr.wf, Bool.and_eq_true, decide_eq_true_eq] at hw
  simp only [Instr.kindAndPayload, Option.some.injEq, Prod.mk.injEq] at hp
  rw [← hp.2, List.length_append, length_steps]
  simp only [List.length_cons, List.length_nil]
  omega

theorem deleteSeq (id : Byte) : Statement (.deleteSeq id) :=
  of_length (n := 1) (by decide) (by rintro k p ⟨⟩; rfl)

theorem pulseSync : Statement .pulseSync :=
  of_length (n := 0) (by decide) (by rintro k p ⟨⟩; rfl)

theorem pause (lane : LaneNo) : Statement (.pause lane) :=
  of_length (n := 1) (by decide) (by rintro k p ⟨⟩; rfl)

theorem resume (lane : LaneNo) : Statement (.resume lane) :=
  of_length (n := 1) (by decide) (by rintro k p ⟨⟩; rfl)

theorem stop (lane : LaneNo) (mode : Byte) : Statement (.stop lane mode) :=
  of_length (n := 2) (by decide) (by rintro k p ⟨⟩; rfl)

theorem breakPass (lane : LaneNo) : Statement (.breakPass lane) :=
  of_length (n := 1) (by decide) (by rintro k p ⟨⟩; rfl)

theorem amend (lane : LaneNo) (serial duration : Half) : Statement (.amend lane serial duration) :=
  of_length (n := 5) (by decide) (by rintro k p ⟨⟩; rfl)

theorem flush (lane : LaneNo) : Statement (.flush lane) :=
  of_length (n := 1) (by decide) (by rintro k p ⟨⟩; rfl)

theorem abort (lanes : LaneSet) : Statement (.abort lanes) :=
  of_length (n := 1) (by decide) (by rintro k p ⟨⟩; rfl)

theorem clearFault (lane : LaneNo) : Statement (.clearFault lane) :=
  of_length (n := 1) (by decide) (by rintro k p ⟨⟩; rfl)

theorem pinReset : Statement .pinReset := of_none rfl

theorem resetRelease (straps : BitVec 2) : Statement (.resetRelease straps) := of_none rfl

theorem startUpEvent : Statement .startUpEvent := of_none rfl

theorem characterReceived (c : Character) : Statement (.characterReceived c) := of_none rfl

theorem gapExpiry : Statement .gapExpiry := of_none rfl

theorem validFrame (f : Frame) : Statement (.validFrame f) := of_none rfl

theorem frameTake : Statement .frameTake := of_none rfl

theorem commandCompletion : Statement .commandCompletion := of_none rfl

theorem transmissionEnd : Statement .transmissionEnd := of_none rfl

theorem keepaliveExpiry : Statement .keepaliveExpiry := of_none rfl

theorem killAssertion : Statement .killAssertion := of_none rfl

theorem killRelease : Statement .killRelease := of_none rfl

theorem triggerEdge (input : TrigNo) (edge : Edge) : Statement (.triggerEdge input edge) := of_none rfl

theorem syncEdge : Statement .syncEdge := of_none rfl

theorem syncPulseExpiry : Statement .syncPulseExpiry := of_none rfl

theorem stepEndTimer (lane : LaneNo) : Statement (.stepEndTimer lane) := of_none rfl

theorem blankingEnd (lane : LaneNo) : Statement (.blankingEnd lane) := of_none rfl

theorem stepTimeout (lane : LaneNo) : Statement (.stepTimeout lane) := of_none rfl

theorem guardExpiry (line : LineNo) : Statement (.guardExpiry line) := of_none rfl

theorem startBitRecognized : Statement .startBitRecognized := of_none rfl

theorem syncLowToHigh : Statement .syncLowToHigh := of_none rfl

theorem filterLevelAdopted (input : FilteredInput) (level : Level) : Statement (.filterLevelAdopted input level) := of_none rfl

end Sys2Proof.Laws.Fits
end

