-- ==== Sys2Proof/Laws/Play.lean ====
section
/-! SUPPORT. The step boundary procedure stage by stage: what each stage answers in each of its cases. -/

namespace Sys2Proof.Machine

/-- The step at the cursor of a STEP entry is its own (R87). -/
@[simp] theorem stepAt_step (s : State) (e : Half) (st : Step) (i p : Nat) (b : Bool) :
    s.stepAt ⟨⟨e, .step st⟩, i, p, b⟩ = some st := rfl

/-- The step at the cursor of a PLAY entry is its slot's step of that index (R87). -/
@[simp] theorem stepAt_play (s : State) (e : Half) (slot : SlotNo) (k i p : Nat) (b : Bool) :
    s.stepAt ⟨⟨e, .play slot k⟩, i, p, b⟩ = (s.slot slot).steps[i]? := rfl

/-- The step at a cursor depends on the library's steps alone. -/
theorem stepAt_congr {s t : State} (h : ∀ i, (t.slot i).steps = (s.slot i).steps) (c : Current) : t.stepAt c = s.stepAt c := by
  unfold State.stepAt; split <;> simp [h]

/-- Stage 7 for a cursor that stands at a step (R88). -/
theorem beginStep_of_step {s : State} {n : LaneNo} {c : Current} {st : Step} (h : s.stepAt c = some st) :
    s.beginStep n c =
      State.tellFollowers (((s.updLane n fun r => { r with current := some c, state := .running }).applyPattern n st.active).updLane n
        fun r => { r with run := some ⟨st, s.now, false, false⟩ }) n := by
  have h' : (s.updLane n fun r => { r with current := some c, state := .running }).stepAt c = some st :=
    (stepAt_congr (fun _ => rfl) c).trans h
  simp only [State.beginStep, h', updLane_now]

/-- Lane n after stage 7: RUNNING, with its cursor, and its step begun now (R77, R88). -/
theorem lane_beginStep {s : State} {n : LaneNo} {c : Current} {st : Step} (h : s.stepAt c = some st) :
    (s.beginStep n c).lane n =
      { s.lane n with current := some c, state := .running, run := some ⟨st, s.now, false, false⟩ } := by
  simp [beginStep_of_step h, State.tellFollowers]

/-- The lanes that name lane n as leader depend on the configuration records alone. -/
theorem followers_congr {s t : State} (h : ∀ m, (t.lane m).config = (s.lane m).config) (n : LaneNo) : t.followers n = s.followers n := by
  simp [State.followers, h]

/-- What stage 7 sets off: the boundary event of lane n at each of its followers (R88, R89). -/
theorem setOff_beginStep {s : State} {n : LaneNo} {c : Current} {st : Step} (h : s.stepAt c = some st) :
    (s.beginStep n c).setOff = s.setOff ++ (s.followers n).map .leaderBoundary := by
  rw [beginStep_of_step h]
  have hf := followers_congr (s := s)
    (t := ((s.updLane n fun r => { r with current := some c, state := .running }).applyPattern n st.active).updLane n
      fun r => { r with run := some ⟨st, s.now, false, false⟩ })
    (fun m => by rw [lane_updLane]; split
                 · next h => subst h; simp
                 · next h => simp [h]) n
  rw [State.tellFollowers, sets_setOff, hf]
  rfl

/-- The head of a queue that is not empty begins (R42, R73). -/
theorem beginHead_of_queue {s : State} {n : LaneNo} {e : Entry} {es : List Entry} (h : (s.lane n).queue = e :: es) :
    s.beginHead n = (s.updLane n fun r => { r with queue := es }).beginStep n (Current.first e) := by
  simp [State.beginHead, h]

/-- Stage 6 with an entry that continued (R87). -/
theorem nextStep_of_current {s : State} {n : LaneNo} {c : Current} {quiet : Bool} (h : (s.lane n).current = some c) :
    s.nextStep n quiet = s.beginStep n c := by
  simp [State.nextStep, h]

/-- Stage 6 with a queue head (R87). -/
theorem nextStep_of_queue {s : State} {n : LaneNo} {e : Entry} {es : List Entry} {quiet : Bool}
    (h : (s.lane n).current = none) (hq : (s.lane n).queue = e :: es) :
    s.nextStep n quiet = (s.updLane n fun r => { r with queue := es }).beginStep n (Current.first e) := by
  simp [State.nextStep, h, hq, beginHead_of_queue hq]

/-- Stage 6 with nothing to play, end action HOLD (R87). -/
theorem nextStep_hold {s : State} {n : LaneNo} {quiet : Bool} (h : (s.lane n).current = none) (hq : (s.lane n).queue = [])
    (ha : (s.lane n).config.endAction = .hold) :
    s.nextStep n quiet = (s.setLaneState n .starved).tellState n quiet .starved := by
  simp [State.nextStep, h, hq, ha]

/-- Stage 6 with nothing to play, end action REST (R87). -/
theorem nextStep_rest {s : State} {n : LaneNo} {quiet : Bool} (h : (s.lane n).current = none) (hq : (s.lane n).queue = [])
    (ha : (s.lane n).config.endAction = .rest) :
    s.nextStep n quiet = (s.goIdle n).tellState n quiet .completed := by
  simp [State.nextStep, h, hq, ha]

/-- Stage 4 for a STEP entry: it has played its one step (R84). -/
@[simp] theorem move_step (e : Half) (st : Step) (i p : Nat) (b : Bool) (filled : SlotNo → Nat) :
    Current.move ⟨⟨e, .step st⟩, i, p, b⟩ filled = .ends .done 1 := rfl

/-- Stage 4 within a pass (R84). -/
theorem move_within {e : Half} {slot : SlotNo} {k i p : Nat} {b : Bool} {filled : SlotNo → Nat} (h : i + 1 < filled slot) :
    Current.move ⟨⟨e, .play slot k⟩, i, p, b⟩ filled = .continues ⟨⟨e, .play slot k⟩, i + 1, p, b⟩ := by
  simp [Current.move, h]

/-- Stage 4 at a pass end with break pending (R84). -/
theorem move_broken {e : Half} {slot : SlotNo} {k i p : Nat} {filled : SlotNo → Nat} (h : filled slot ≤ i + 1) :
    Current.move ⟨⟨e, .play slot k⟩, i, p, true⟩ filled = .ends .broken p := by
  simp [Current.move, Nat.not_lt.2 h]

/-- Stage 4 at the end of the last pass (R84). -/
theorem move_done {e : Half} {slot : SlotNo} {k i : Nat} {filled : SlotNo → Nat} (h : filled slot ≤ i + 1) (hk : k ≠ 0) :
    Current.move ⟨⟨e, .play slot k⟩, i, k, false⟩ filled = .ends .done k := by
  simp [Current.move, Nat.not_lt.2 h, hk]

/-- Stage 4 at a pass end that another pass follows (R84). -/
theorem move_again {e : Half} {slot : SlotNo} {k i p : Nat} {filled : SlotNo → Nat} (h : filled slot ≤ i + 1)
    (hk : k = 0 ∨ p ≠ k) :
    Current.move ⟨⟨e, .play slot k⟩, i, p, false⟩ filled = .continues ⟨⟨e, .play slot k⟩, 0, p + 1, false⟩ := by
  simp only [Current.move, if_neg (Nat.not_lt.2 h), Bool.false_eq_true, if_false]
  rw [if_neg]
  rintro ⟨h0, hp⟩
  rcases hk with hk | hk
  · exact h0 hk
  · exact hk hp

/-- A cause of safe hold at a lane in OFF or SAFE changes nothing (R130). -/
theorem enterSafe_unmoved {s : State} {n : LaneNo} {c : SafeCause} (h : (s.lane n).state = .off ∨ (s.lane n).state = .safe) :
    s.enterSafe n c = s := by
  simp [State.enterSafe, h]

/-- At any other lane it runs the stages of the entry (R131). -/
theorem enterSafe_of {s : State} {n : LaneNo} {c : SafeCause} (ho : (s.lane n).state ≠ .off) (hs : (s.lane n).state ≠ .safe) :
    s.enterSafe n c = s.safeStages n c := by
  simp [State.enterSafe, ho, hs]

/-- Lane n after the stages of the entry: SAFE, its queue empty, nothing current, no step in progress, its record and next serial kept (R129,
R131). -/
theorem lane_safeStages (s : State) (n : LaneNo) (c : SafeCause) :
    (s.safeStages n c).lane n = { s.lane n with state := .safe, queue := [], current := none, run := none } := by
  have hrun : ((s.cutStep n).lane n) = { s.lane n with run := none } := by
    unfold State.cutStep
    split
    · simp only [State.dropStep, lane_updLane_self, State.reportStep]
      split <;> simp
    · simp [State.dropStep]
    · next h => cases hl : s.lane n; simp_all
  have hcur : (((s.cutStep n).cutEntry n .cut).lane n) = { s.lane n with run := none, current := none } := by
    unfold State.cutEntry
    split
    · next d hd =>
      unfold State.endEntry
      have h1 : ((s.cutStep n).releaseUse d.entry.body).lane n = (s.cutStep n).lane n := by
        cases d.entry.body <;> rfl
      dsimp only
      split <;> simp [h1, hrun]
    · next hd => rw [hrun] at hd ⊢; cases hl : s.lane n; simp_all
  have hfold : ∀ (es : List Entry) (t : State), (es.foldl (fun t e => t.releaseUse e.body) t).lane n = t.lane n := by
    intro es
    induction es with
    | nil => intro t; rfl
    | cons e es ih =>
      intro t
      rw [List.foldl_cons, ih]
      cases e.body <;> rfl
  have hdis : ∀ t : State, (t.discardQueue n).lane n = { t.lane n with queue := [] } := by
    intro t; simp [State.discardQueue, hfold]
  have hrep : ∀ t : State, (t.reportSafe n c).lane n = t.lane n := by
    intro t; unfold State.reportSafe; split <;> simp
  unfold State.safeStages
  dsimp only
  rw [hrep]
  simp [hdis, hcur]

/-- FAULT_N after the stages of the entry (R131). -/
theorem faultN_safeStages (s : State) (n : LaneNo) (c : SafeCause) : (s.safeStages n c).faultN = true := by
  unfold State.safeStages State.reportSafe
  dsimp only
  split <;> simp

end Sys2Proof.Machine
end

