-- ==== Sys2Proof/Tests/Slice0.lean ====
section
/-! SUPPORT. The package's own tests: what the checks refuse, the bytes of the manual's examples, single steps of the part, and for every
statement with hypotheses a state and operands that meet them, clause by clause. -/

namespace Sys2Proof.Tests

open Sys2Proof.Machine Sys2Proof.Safety Sys2Proof.Spec

set_option Elab.async false

/-! ### The checks of WellFormed refuse -/

theorem test_wf_getStatus_lane : (Instr.getStatus 1 3).wf = true ∧ (Instr.getStatus 1 4).wf = false := by decide +kernel

theorem test_wf_enqueue_none : (Instr.enqueue 0 []).wf = false := by decide +kernel

theorem test_wf_enqueue_nine : (Instr.enqueue 0 (List.replicate 8 (.play 0 0))).wf = true
    ∧ (Instr.enqueue 0 (List.replicate 9 (.play 0 0))).wf = false := by decide +kernel

theorem test_wf_enqueue_kind : (Instr.enqueue 0 [.unknown 1]).wf = false ∧ (Instr.enqueue 0 [.unknown 0]).wf = false
    ∧ (Instr.enqueue 0 [.unknown 2]).wf = true := by decide +kernel

theorem test_wf_append_none : (Instr.appendSeq 0 0 []).wf = false := by decide +kernel

theorem test_wf_append_many : (Instr.appendSeq 0 0 (List.replicate 32 ⟨0, 1, 0⟩)).wf = true
    ∧ (Instr.appendSeq 0 0 (List.replicate 33 ⟨0, 1, 0⟩)).wf = false := by decide +kernel

theorem test_wf_frame : (Instr.validFrame ⟨3, 0, List.replicate 240 0⟩).wf = true
    ∧ (Instr.validFrame ⟨3, 0, List.replicate 241 0⟩).wf = false := by decide +kernel

/-! ### Bytes of the manual's examples -/

/-- R145: the CRC of the nine ASCII bytes "123456789" is 0x29B1. -/
theorem test_crc : crc [0x31, 0x32, 0x33, 0x34, 0x35, 0x36, 0x37, 0x38, 0x39] = 0x29B1 := by decide +kernel

/-- R175: the two encoded entries, and the ENQUEUE to lane 2 that carries them. -/
def exampleEnqueue : Instr := .enqueue 2 [.step ⟨0x28, 125, 0⟩, .play 6 0]

theorem test_enqueue_bytes : exampleEnqueue.kindAndPayload
    = some (0x0A, [2, 2, 0, 0, 0, 0x28, 0, 0x7D, 0, 1, 6, 0, 0, 0, 0, 0]) := by decide +kernel

theorem test_enqueue_length : (exampleEnqueue.frame 7).map Frame.length = some 18 := by decide +kernel

theorem test_enqueue_read :
    Frame.carries ⟨0x0A, 7, [2, 2, 0, 0, 0, 0x28, 0, 0x7D, 0, 1, 6, 0, 0, 0, 0, 0]⟩ exampleEnqueue = true := by decide +kernel

/-- R179: the reports of a kill. -/
theorem test_kill_reports :
    (Message.report 0 (.stepEnd 0 12 1 3 .cut 40)).frame = ⟨0x81, 0, [0, 0, 0, 12, 1, 0, 3, 5, 0, 0x28]⟩
    ∧ (Message.report 0 (.entryEnd 0 12 .cut 2)).frame = ⟨0x82, 0, [0, 0, 0, 12, 3, 0, 2]⟩
    ∧ (Message.report 0 (.laneState 0 .safe .kill)).frame = ⟨0x83, 0, [0, 0, 8, 5]⟩
    ∧ (Message.report 0 (.laneState 0 .safe (.interlock 1 0))).frame = ⟨0x83, 0, [0, 0, 8, 7, 1, 0]⟩ := by decide +kernel

theorem test_interlock_length : (Message.report 0 (.laneState 0 .safe (.interlock 1 0))).frame.length = 8 := by decide +kernel

/-- R142: the start bit, the data bits with the least significant first, the parity bit, the stop bit. -/
theorem test_character_bits :
    charBits .none 0xC5 = [false, true, false, true, false, false, false, true, true, true]
    ∧ charBits .even 0x01 = [false, true, false, false, false, false, false, false, false, true, true]
    ∧ charBits .odd 0x01 = [false, true, false, false, false, false, false, false, false, false, true] := by decide +kernel

/-- Table 10-3. -/
theorem test_identity_bytes : (Message.reply 1 9 ⟨.ok, .identity, none⟩).frame
    = ⟨0x80, 9, [1, 0, 0x6B, 0x21, 0x04, 0x24, 1, 24, 4, 32, 0x02, 0x00, 16]⟩ := by decide +kernel

/-- Table 12-7: the largest reply is that of scope LINES, 147 bytes of payload. -/
theorem test_lines_length :
    (Message.reply 2 0 ⟨.ok, .status (State.reset.contents .lines), none⟩).frame.payload.length = 147 := by decide +kernel

/-! ### Small states -/

/-- A step of 10 ticks on L0, and its EDGE and FOLLOW forms on L1. -/
def stepT : Machine.Step := ⟨1, 10, .time⟩
def stepE : Machine.Step := ⟨2, 10, .edge⟩
def stepF : Machine.Step := ⟨2, 10, .follow⟩

/-- The record of lane 0: L0 to L3, guard 5, blanking 2, trigger input 0. -/
def cfg : LaneConfig :=
  { LaneConfig.reset with lines := 0xF, guard := 5, blanking := 2, trigger := some 0, policy := .steps, restSet := 1 }

/-- A started part at time 1000: lane 0 with L0 to L3 and the record given, slot 3 SEALED with two steps and use count 1. -/
def part (r : LaneRec) : State :=
  let s := { State.reset with phase := .started, now := 1000 }
  ((s.assignLines 0 0xF).updLane 0 fun _ => r).updSlot 3 fun _ => ⟨.sealed, some 2, [stepT, stepT], 1⟩

/-- Lane 0 in a state, with a queue, a current entry and a step in progress. -/
def lane0 (st : LaneState) (queue : List Entry) (current : Option Current) (run : Option StepRun) : LaneRec :=
  ⟨cfg, st, queue, 9, current, run⟩

def entryT : Entry := ⟨7, .step stepT⟩
def entryP (repeats : Nat) : Entry := ⟨8, .play 3 repeats⟩
def runT : StepRun := ⟨stepT, 990, false, false⟩
def runE : StepRun := ⟨stepE, 990, true, false⟩
def curT : Current := ⟨entryT, 0, 1, false⟩
def curP (repeats index pass : Nat) (mark : Bool) : Current := ⟨entryP repeats, index, pass, mark⟩

/-- The part idle, and playing one step. -/
def idlePart : State := part (lane0 .idle [entryT] none none)
def playing (st : LaneState) : State := part (lane0 st [] (some curT) (some runT))

/-- The frame of a command, the execution that awaits its event, and the part that executes it. -/
def frameOf (c : Instr) : Frame := (c.frame 0x5A).getD ⟨0, 0, []⟩
def execution (c : Instr) : Execution := ⟨frameOf c, none, 0, 0⟩
def on (s : State) (c : Instr) : State := { s with proc := .executing (execution c) }

/-- A part that executes the frame of a command awaits it. -/
theorem awaited_on (s : State) (c : Instr) (h : (frameOf c).carries c = true) : Awaited (on s c) (execution c) c := by
  refine ⟨rfl, rfl, ?_⟩
  unfold Frame.carries at h
  split at h
  · next c' hc => exact hc.trans (by simpa using h)
  · simp at h

/-- The state a step answers, for reading. -/
def after (s : State) : State :=
  match step s with
  | .next t => t
  | .fault _ => s
  | .refused _ => s

/-- One step with an event or command at the front of the queue. -/
def stepOn (s : State) (c : Instr) : State := after { s with pending := c :: s.pending }

/-- One step on an empty queue that takes, of what may happen then, the one of this number. -/
def stepTaking (s : State) (k : Nat) : State := after { s with choices := [k] }

/-- The result code that a command is answered with. -/
def answeredWith (s : State) (c : Instr) : Option ResultCode :=
  match (stepOn (on s c) c).proc with
  | .executing x => x.answer.map Answer.code
  | .idle => none

/-! ### Single steps -/

/-- R6, R7: a named line is PENDING from the step's begin, and ACTIVE at its guard expiry. -/
theorem test_start_and_guard :
    ((stepOn (on idlePart (.start 1 0)) (.start 1 0)).line 0).state = .pending 1000
    ∧ ((stepOn { stepOn (on idlePart (.start 1 0)) (.start 1 0) with now := 1005 } (.guardExpiry 0)).line 0).state = .active
    ∧ ((stepOn { stepOn (on idlePart (.start 1 0)) (.start 1 0) with now := 1004 } (.guardExpiry 0)).line 0).state = .pending 1000 := by
  decide +kernel

/-- Table 5-3: the START checks of section 5.2.1. -/
def startPart : State :=
  let s := part (lane0 .idle [entryT, entryT, entryT] none none)
  let s := s.updLane 1 fun r => { r with state := .idle, config := { r.config with lines := 0xF0 } }
  s.updLane 2 fun r => { r with state := .armed, queue := [entryT, entryT] }

theorem test_start_checks :
    answeredWith startPart (.start 0 0) = some .badValue ∧ answeredWith startPart (.start 7 0) = some .empty
    ∧ answeredWith startPart (.start 5 0) = some .wrongState ∧ answeredWith startPart (.start 9 1) = some .wrongState
    ∧ answeredWith startPart (.start 1 1) = some .ok := by decide +kernel

/-- Table 7-1, the row of PAUSE. -/
theorem test_pause_row :
    ([.off, .idle, .armed, .running, .starved, .pausing, .paused, .stopping, .safe].map fun st =>
        answeredWith (part (lane0 st [] none none)) (.pause 0))
      = [some .wrongState, some .wrongState, some .wrongState, some .ok, some .ok, some .ok, some .ok, some .wrongState,
         some .wrongState] := by decide +kernel

/-- Section 5.5: a PLAY entry at the end of its last pass ends DONE, releases its slot, and the lane starves or rests. -/
theorem test_play_done :
    let s := stepOn (part (lane0 .running [] (some (curP 2 1 2 false)) (some runT))) (.stepEndTimer 0)
    (s.lane 0).state = .idle ∧ (s.lane 0).current = none ∧ (s.slot 3).useCount = 0
      ∧ s.setOff = sent [.stepEnd 0 8 1 2 .time 10, .entryEnd 0 8 .done 2, .laneState 0 .idle .completed]
      ∧ s.offerAll.tx.queue
        = [.report 0 (.stepEnd 0 8 1 2 .time 10), .report 0 (.entryEnd 0 8 .done 2), .report 0 (.laneState 0 .idle .completed)] := by
  decide +kernel

/-- R8, R10: an activation beside an ACTIVE partner is withheld; the block takes the lane to SAFE, and a STOP NOW that comes before it is
answered first (R128). -/
def pairPart : State :=
  let s := (playing .running).updLine 0 fun r => { r with state := .pending 990, partner := some 1 }
  s.updLine 1 fun r => { r with state := .active, partner := some 0 }

theorem test_interlock :
    let s := stepOn pairPart (.guardExpiry 0)
    let t := stepTaking s 0
    let u := stepTaking (stepOn (on s (.stop 0 1)) (.stop 0 1)) 0
    (s.lane 0).state = .running ∧ (s.line 0).state = .inactive ∧ s.setOff = [.safe 0 (.interlock 0 1)]
      ∧ (t.lane 0).state = .safe ∧ (t.line 1).state = .inactive ∧ t.faultN = true ∧ t.setOff.length = 3
      ∧ ((stepOn (on s (.stop 0 1)) (.stop 0 1)).lane 0).state = .idle ∧ (u.lane 0).state = .safe := by decide +kernel

/-- R76: a START that comes between the withheld expiry of a rest-set line and its block is refused, and the lane is in SAFE. -/
def withheldPart : State := { idlePart with setOff := [.safe 0 (.interlock 0 1)] }

theorem test_withheld_before_start :
    answeredWith withheldPart (.start 1 0) = some .wrongState ∧ ((stepOn (on withheldPart (.start 1 0)) (.start 1 0)).lane 0).state = .safe
      ∧ (stepOn (on withheldPart (.start 1 0)) (.start 1 0)).setOff = sent [.laneState 0 .safe (.interlock 0 1)]
      ∧ answeredWith idlePart (.start 1 0) = some .ok := by decide +kernel

/-- R173: of an ABORT's group the report of lane 0 need not wait for an earlier report of lane 1, and that of lane 1 does. -/
theorem test_abort_group_turns :
    let e := Report.entryEnd 1 5 .done 1
    let a := Report.entryEnd 0 7 .cut 0
    let b := Report.entryEnd 1 6 .cut 0
    takeable [] [.reports [e], .reports [a, b]] = [(.reports [e], [.reports [a, b]]), (.reports [a, b], [.reports [e], .reports [b]])]
      ∧ takeable [] [.reports [e], .reports [b]] = [(.reports [e], [.reports [b]])] := by decide +kernel

/-- R136: a kill sends its notice and goes to the lane, which enters SAFE in an event of its own; the reports of the lane keep their order, and
the notice can fall between them (R131, R173). -/
def adoptedPart (s : State) : State := { s with kill := ⟨false, true, 990⟩ }

theorem test_kill :
    let s := stepOn (adoptedPart (playing .running)) .killAssertion
    let t := stepTaking (stepTaking (stepTaking s 1) 1) 0
    s.kill = ⟨true, true, 1000⟩ ∧ s.setOff = [.reports [.notice .killAsserted], .safe 0 .kill]
      ∧ (t.lane 0).state = .safe ∧ (t.lane 0).run = none
      ∧ t.tx.queue = [.report 0 (.stepEnd 0 7 0 1 .cut 10), .report 0 (.notice .killAsserted)]
      ∧ t.setOff = sent [.entryEnd 0 7 .cut 0, .laneState 0 .safe .kill]
      ∧ (stepOn ({ adoptedPart (playing .running) with now := 999 } : State) .killAssertion).kill.asserted = false := by decide +kernel

/-- R94: after one edge of an input there is no other for 0.2 µs. -/
theorem test_trigger_spacing :
    let s := stepOn (idlePart.setTrigger 0 ⟨.low, true, 998⟩) (.triggerEdge 0 .rising)
    s.trigger 0 = ⟨.high, true, 1000⟩ ∧ s.setOff = [.edge 0 .rising]
      ∧ (stepOn { s with now := 1001 } (.triggerEdge 0 .falling)).trigger 0 = ⟨.high, true, 1000⟩
      ∧ (stepOn { s with now := 1002 } (.triggerEdge 0 .falling)).trigger 0 = ⟨.low, true, 1002⟩ := by decide +kernel

/-- R143: of a break, which reads as low characters back to back, one counts, however long it is; a stop bit read high ends the wait, and a
start bit within it begins it again. -/
theorem test_break_counts_once :
    let low := Instr.characterReceived ⟨false, 0, false, false⟩
    let s := stepOn idlePart low
    let t := stepOn { s with now := 1868 } low
    let u := stepOn { t with now := 2736 } low
    s.rx.quietFrom = some 1000 ∧ u.rx.quietFrom = some 2736 ∧ u.rx.counters.framing = 1
      ∧ (stepOn { u with now := 2780 } .startBitRecognized).rx.quietFrom = some 2780
      ∧ (stepOn { u with now := 3604 } (.characterReceived ⟨false, 0xC5, true, true⟩)).rx = { u.rx with quietFrom := none }
      ∧ (stepOn { u with now := 2736 + 955 } (.characterReceived ⟨false, 0xC5, true, true⟩)).rx.state = .inFrame [] 0 := by decide +kernel

/-- R145 to R148: the characters of PING's frame, one after the other, put it into the inbound queue. -/
theorem test_receive_ping :
    (((frameOf .ping).bytes.map fun b => Instr.characterReceived ⟨false, b, true, true⟩).foldl stepOn idlePart).rx.inbound
      = [frameOf .ping] := by decide +kernel

/-- R157 to R161: a frame is taken, its event happens, and its reply is queued. -/
theorem test_ping_is_answered :
    let s := { idlePart with rx := { idlePart.rx with inbound := [frameOf .ping] }, choices := [0, 0] }
    (stepOn (stepOn (stepOn s .frameTake) .ping) .commandCompletion).tx.queue = [.reply 3 0x5A ⟨.ok, .none, none⟩] := by decide +kernel

/-- R157, R166: from reset, the release and 1 ms of time lead to the start-up event and its notice. -/
theorem test_start_up :
    let s := stepOn (stepOn State.reset (.resetRelease 0)) .startUpEvent
    s.phase = .starting 0 ∧ (stepOn { s with now := 10000 } .startUpEvent).phase = .started
      ∧ (stepOn { s with now := 10000 } .startUpEvent).tx.queue = [.report 0 (.notice .resetDone)] := by decide +kernel

/-- The table gives no row bits, so no word spells a command. -/
theorem test_table_word : decodeTableWord 16 0 = none ∧ State.reset.withFetchWord 16 0 = State.reset := by decide +kernel

/-! ### The hypotheses of the statements are met

Every command below is awaited by the part `on s c`, for any state s (`awaited_on`); the theorems after it give the states and operands of
each statement's clauses, at the ends of their ranges. -/

def goodRaw : RawConfig := ⟨0xF, 10, 255, 1, 3, 2, 0xFF, 1, 1, 2, 1⟩

def linkCommands : List Instr :=
  [.identify, .ping, .getStatus 0 0, .getStatus 1 3, .getStatus 2 0, .getStatus 3 0, .getStatus 3 1, .getStatus 4 31, .getStatus 4 32,
   .getStatus 5 0, .setLink 5 2 6000, .setLink 6 0 0, .setLink 0 3 0, .setLink 0 0 6001, .reinit]

def lineCommands : List Instr :=
  [.configLine 23 1 1, .configLine 0 1 1, .configLine 24 0 0, .configLine 0 2 0, .configLine 0 0 2, .setPair 24 0, .setPair 0 24,
   .setPair 5 5, .setPair 0 1, .setPair 22 23, .setPair 0 23, .clearPair 24, .clearPair 23, .clearPair 0]

def laneCommands : List Instr :=
  [.configLane 0 goodRaw, .configLane 0 { goodRaw with tickExp := 11 }, .enqueue 0 [.step ⟨1, 10, 0⟩],
   .enqueue 0 [.step ⟨1, 10, 0⟩, .play 3 255], .enqueue 0 (List.replicate 8 (.play 3 1)), .start 0 0, .start 1 2, .start 1 0,
   .start 1 1, .start 15 0]

def libraryCommands : List Instr :=
  [.openSeq 32 1, .openSeq 3 1, .openSeq 31 0, .openSeq 31 65, .openSeq 31 64, .openSeq 31 1, .appendSeq 32 0 [⟨1, 10, 0⟩],
   .appendSeq 3 0 [⟨1, 10, 0⟩], .appendSeq 4 1 [⟨1, 10, 0⟩], .appendSeq 4 0 [⟨1, 0, 0⟩], .appendSeq 4 0 [⟨1, 10, 3⟩],
   .appendSeq 4 0 [⟨1, 10, 2⟩, ⟨1, 10, 0⟩], .appendSeq 4 0 (List.replicate 3 ⟨1, 10, 0⟩), .deleteSeq 32, .deleteSeq 31, .deleteSeq 3]

def interveningCommands : List Instr :=
  [.pulseSync, .pause 0, .resume 0, .stop 0 0, .stop 0 1, .stop 0 2, .breakPass 0, .amend 0 7 0, .amend 0 7 5, .amend 0 7 10,
   .amend 0 7 65535, .amend 0 6 20, .flush 0, .abort 0, .abort 15, .clearFault 0]

theorem test_commands_are_awaited :
    [linkCommands, lineCommands, laneCommands, libraryCommands, interveningCommands].all (fun l => l.all fun c => (frameOf c).carries c) = true := by
  decide +kernel

theorem test_meets_EmptyQueue :
    idlePart.pending = [] ∧ idlePart.dueEvents = [] ∧ idlePart.setOff = [] ∧ (playing .running).pending = []
      ∧ Instr.stepEndTimer 0 ∈ (playing .running).dueEvents
      ∧ takeable [] [.reports [.notice .killAsserted, .notice .killReleased], .safe 0 .kill, .reports [.notice .killAsserted]]
        = [(.reports [.notice .killAsserted, .notice .killReleased],
            [.reports [.notice .killReleased], .safe 0 .kill, .reports [.notice .killAsserted]]),
           (.safe 0 .kill, [.reports [.notice .killAsserted, .notice .killReleased], .reports [.notice .killAsserted]])] := by
  decide +kernel

/-- A kill assertion on its way to lane 0, in IDLE and with an empty queue. -/
def killComing : State := { part (lane0 .idle [] none none) with setOff := [.safe 0 .kill], kill := ⟨true, true, 1000⟩ }

theorem test_meets_killComing :
    killComing.setOff = [] ++ .safe 0 .kill :: [] ∧ (killComing.lane 0).state = .idle ∧ idlePart.setOff = []
      ∧ answeredWith killComing (.configLane 0 goodRaw) = some .wrongState
      ∧ ((stepOn (on killComing (.configLane 0 goodRaw)) (.configLane 0 goodRaw)).lane 0).state = .safe := by decide +kernel

theorem test_meets_RefusedCommand : Instr.ping.kindAndPayload = some (3, []) ∧ ¬ ∃ x, Awaited State.reset x .ping := by
  refine ⟨by decide, ?_⟩
  rintro ⟨x, h, -⟩
  simp [State.reset] at h

theorem test_meets_ReleaseAndStartUp :
    State.reset.phase = .held ∧ (stepOn State.reset (.resetRelease 3)).phase = .starting 0 := by decide +kernel

theorem test_meets_Reinit :
    (on idlePart .reinit).tx.sending = none ∧ (on (idlePart.offer (.notice .resetDone)) .reinit).tx.sending ≠ none := by decide +kernel

theorem test_meets_GetStatus : (3#8).toNat = (3 : LaneNo).val ∧ (31#8).toNat = (31 : SlotNo).val ∧ 4 < (5#8).toNat ∧ 31 < (32#8).toNat := by
  decide +kernel

theorem test_meets_SetLink :
    (5 : Byte) = Rate.r2000000.code ∧ (2 : Byte) = Parity.odd.code ∧ (6000#16).toNat ≤ 6000 ∧ 5 < (6#8).toNat ∧ 2 < (3#8).toNat
      ∧ 6000 < (6001#16).toNat := by decide +kernel

theorem test_meets_ConfigLine :
    23 < (24#8).toNat ∧ 1 < (2#8).toNat ∧ (23#8).toNat = (23 : LineNo).val ∧ (1 : Byte) = Polarity.activeLow.code
      ∧ (1 : Byte) = SafeLevel.float.code ∧ (idlePart.line 0).owner ≠ none ∧ (idlePart.line 23).owner = none := by decide +kernel

/-- Lines 0 and 1 in the rest set of lane 0, and in those of lanes 0 and 1. -/
def restBoth : State := part { lane0 .idle [] none none with config := { cfg with restSet := 3 } }
def restApart : State :=
  ((part (lane0 .safe [] none none)).updLane 1 fun r => { r with state := .idle, config := { r.config with lines := 0x10, restSet := 0x10 } }).updLine
    4 fun r => { r with owner := some 1 }

theorem test_meets_SetPair :
    idlePart.partner 22 = none ∧ idlePart.partner 23 = none ∧ (idlePart.line 22).owner = none
      ∧ pairPart.partner 0 ≠ none ∧ pairPart.partner 1 ≠ none
      ∧ (idlePart.line 0).owner = some 0 ∧ (idlePart.lane 0).queue ≠ []
      ∧ ((playing .running).lane 0).state ∉ [LaneState.off, .idle, .safe]
      ∧ (restBoth.lane 0).queue = [] ∧ lineIn (restBoth.lane 0).config.restSet 0 = true ∧ lineIn (restBoth.lane 0).config.restSet 1 = true
      ∧ (restApart.lane 0).state = .safe ∧ (restApart.line 4).owner = some 1 ∧ lineIn (restApart.lane 1).config.restSet 4 = true
      ∧ lineIn (restApart.lane 0).config.restSet 0 = true ∧ lineIn (restApart.lane 0).config.restSet 3 = false := by decide +kernel

def pairedIdle : State := restApart.pairLines 3 23

theorem test_meets_ClearPair :
    pairedIdle.partner 23 = some 3 ∧ pairedIdle.partner 4 = none ∧ (pairedIdle.line 3).owner = some 0 ∧ (pairedIdle.lane 0).state = .safe
      ∧ (pairedIdle.lane 0).queue = [] ∧ pairPart.partner 0 = some 1 ∧ (pairPart.lane 0).state = .running := by decide +kernel

/-- A record out of range in each field at the end of its range, and within all of them. -/
theorem test_meets_ConfigLane_ranges :
    10 < (11#8).toNat ∧ 3 < (4#8).toNat ∧ (4 : Byte) ≠ 0xFF ∧ (254 : Byte) ≠ 0xFF ∧ 2 < (3#8).toNat ∧ 1 < (2#8).toNat
      ∧ (∃ l : LineNo, lineIn 0x10 l = true ∧ lineIn 0xF l = false)
      ∧ goodRaw.tickExp.toNat ≤ 10 ∧ goodRaw.blanking ≠ 0 ∧ goodRaw.trigger.toNat ≤ 3 ∧ goodRaw.leader = 0xFF
      ∧ (∀ l : LineNo, lineIn goodRaw.restSet l = true → lineIn goodRaw.lines l = true) := by decide +kernel

/-- For each check of CONFIG_LANE a state that fails it after passing those before, and one that passes all. -/
theorem test_meets_ConfigLane_checks :
    ((playing .running).lane 0).state ∉ [LaneState.off, .idle] ∧ (idlePart.lane 0).queue ≠ []
      ∧ (restBoth.lane 0).state = .idle ∧ (restBoth.lane 0).queue = []
      ∧ (restApart.line 4).owner = some 1 ∧ lineIn 0x10 4 = true
      ∧ (restBoth.pairLines 0 1).partner 0 = some 1 ∧ lineIn 3 0 = true ∧ lineIn 3 1 = true
      ∧ (0#8).toNat = (0 : LaneNo).val
      ∧ goodRaw.trigger.toNat = (3 : TrigNo).val ∧ goodRaw.edge = 2 ∧ goodRaw.leader.toNat = 255 ∧ goodRaw.endAction = 1
      ∧ goodRaw.timeoutAction = 1 ∧ goodRaw.policy = 2 ∧ answeredWith (part (lane0 .idle [] none none)) (.configLane 0 goodRaw) = some .ok ∧ (∀ l : LineNo, (restBoth.line l).owner = none ∨ (restBoth.line l).owner = some 0)
      ∧ (∀ l : LineNo, restBoth.partner l = none) ∧ restBoth.kill.asserted = false := by decide +kernel

theorem test_meets_StepChecks :
    lineIn 0x10 4 = true ∧ lineIn cfg.lines 4 = false ∧ lineIn 3 0 = true ∧ pairPart.partner 0 = some 1 ∧ lineIn 3 1 = true
      ∧ 5 * 2 ^ cfg.tickExp ≤ cfg.guard ∧ ¬ 6 * 2 ^ cfg.tickExp ≤ cfg.guard
      ∧ 7 * 2 ^ cfg.tickExp > cfg.guard ∧ 7 ≤ { cfg with blanking := 7 }.blanking
      ∧ cfg.trigger ≠ none ∧ cfg.leader = none ∧ { cfg with trigger := none }.trigger = none
      ∧ { cfg with leader := some 1 }.leader ≠ none := by decide +kernel

/-- Entries that pass, and one that fails after one that passes. -/
theorem test_meets_Enqueue :
    (idlePart.lane 0).state = .idle ∧ ((part (lane0 .off [] none none)).lane 0).state = .off
      ∧ 16 - ((part (lane0 .idle (List.replicate 15 entryT) none none)).lane 0).queue.length < 2
      ∧ 1 ≤ 16 - ((part (lane0 .idle (List.replicate 15 entryT) none none)).lane 0).queue.length
      ∧ answeredWith idlePart (.enqueue 0 [.step ⟨1, 10, 0⟩, .step ⟨1, 5, 0⟩]) = some .tooShort
      ∧ answeredWith idlePart (.enqueue 0 [.step ⟨1, 10, 0⟩, .play 3 255]) = some .ok
      ∧ ((part (lane0 .starved [] none none)).lane 0).queue = []
      ∧ (part (lane0 .starved [] none none)).stepAt ⟨⟨9, .play 3 1⟩, 0, 1, false⟩ = some stepT
      ∧ answeredWith (part (lane0 .starved [] none none)) (.enqueue 0 [.play 3 1, .step ⟨1, 10, 0⟩]) = some .ok
 := by decide +kernel

/-- A raw step and the step it gives, for each advance. -/
theorem test_meets_Gives :
    Gives ⟨1, 10, 0⟩ stepT ∧ Gives ⟨2, 10, 1⟩ stepE ∧ Gives ⟨2, 65535, 2⟩ ⟨2, 65535, .follow⟩ := by
  refine ⟨⟨?_, ?_, ?_, ?_⟩, ⟨?_, ?_, ?_, ?_⟩, ⟨?_, ?_, ?_, ?_⟩⟩ <;> decide +kernel

/-- Each way an entry fails, with its answer, and two that pass. -/
theorem test_meets_EntryChecks :
    (([.unknown 2, .step ⟨1, 0, 0⟩, .step ⟨1, 10, 3⟩, .step ⟨0x10, 10, 0⟩, .play 32 0, .play 31 0, .play 4 0, .play 3 256] : List RawEntry).map
        fun e => match (idlePart.updSlot 4 fun _ => ⟨.opened, some 2, [], 0⟩).checkEntry 0 e with
          | .error code => some code
          | .ok _ => none)
      = [some .badValue, some .badValue, some .badValue, some .notOwned, some .noSequence, some .noSequence, some .seqOpen, some .badValue]
    ∧ (([.step ⟨1, 10, 0⟩, .play 3 255, .play 3 0] : List RawEntry).all
        fun e => match idlePart.checkEntry 0 e with
          | .error _ => false
          | .ok _ => true) = true
    ∧ (match (idlePart.updSlot 3 fun x => { x with steps := [stepT, ⟨1, 5, .time⟩] }).checkEntry 0 (.play 3 0) with
        | .error code => some code
        | .ok _ => none) = some .tooShort := by decide +kernel

/-- A library with 512 steps reserved: seven slots of 64 and one of 63 beside slot 3's two, less one. -/
def fullLibrary : State := (List.range 8).foldl (fun s i => s.updSlot ⟨(i + 10) % 32, Nat.mod_lt _ (by decide)⟩ fun _ =>
  ⟨.opened, some (if i = 7 then 61 else 64), [], 0⟩) idlePart

theorem test_meets_OpenSeq :
    31 < (32#8).toNat ∧ (31#8).toNat = (31 : SlotNo).val ∧ (idlePart.slot 3).state ≠ .free ∧ (idlePart.slot 31).state = .free
      ∧ 64 < (65#8).toNat ∧ fullLibrary.freeSpace = 1 ∧ (fullLibrary.slot 31).state = .free
      ∧ (idlePart.slot 31).declared = none ∧ (idlePart.slot 31).steps = [] ∧ (idlePart.slot 31).useCount = 0 := by decide +kernel

def openPart : State := idlePart.updSlot 4 fun _ => ⟨.opened, some 2, [], 0⟩

theorem test_meets_AppendSeq :
    (openPart.slot 4).state = .opened ∧ (openPart.slot 3).state = .sealed ∧ (openPart.slot 31).state = .free
      ∧ (1#8).toNat ≠ (openPart.slot 4).steps.length ∧ (0#8).toNat = (openPart.slot 4).steps.length
      ∧ (openPart.slot 4).reserved < (openPart.slot 4).steps.length + 3 ∧ (openPart.slot 4).steps.length + 2 ≤ (openPart.slot 4).reserved
      ∧ ([⟨1, 10, 2⟩, ⟨1, 10, 0⟩] : List RawStep).map stepOfRaw = ([⟨1, 10, .follow⟩, stepT] : List Machine.Step).map some := by
  decide +kernel

theorem test_meets_AppendSeq_steps : List.Forall₂ Gives [⟨1, 10, 2⟩, ⟨1, 10, 0⟩] [⟨1, 10, .follow⟩, stepT] := by
  refine .cons ⟨?_, ?_, ?_, ?_⟩ (.cons ⟨?_, ?_, ?_, ?_⟩ .nil) <;> decide +kernel

theorem test_meets_DeleteSeq :
    (idlePart.slot 31).state = .free ∧ (idlePart.slot 3).state ≠ .free ∧ 0 < (idlePart.slot 3).useCount
      ∧ (openPart.slot 4).state ≠ .free ∧ (openPart.slot 4).useCount = 0 ∧ openPart.reservedSteps ≤ 512 := by decide +kernel

/-- The part with an interlock block on its way to a lane of a START, and the steps that its lane 0 may play. -/
theorem test_meets_blocked :
    laneIn 1 0 = true ∧ (withheldPart.setOff.any (SetOff.blocks 0)) = true ∧ (withheldPart.lane 0).state = .idle
      ∧ withheldPart.setOff = [] ++ .safe 0 (.interlock 0 1) :: [] := by decide +kernel

theorem test_meets_StepsLawful : StepLawful idlePart 0 stepT ∧ ∃ e ∈ (idlePart.lane 0).queue, e = entryT :=
  ⟨⟨by decide +kernel, by decide +kernel⟩, entryT, by decide +kernel, rfl⟩

theorem test_meets_Start :
    1 < (2#8).toNat ∧ (1#8).toNat ≤ 1 ∧ laneIn 15 0 = true ∧ laneIn 15 1 = true
      ∧ (startPart.lane 0).state = .idle ∧ (startPart.lane 0).queue ≠ [] ∧ (startPart.lane 1).state = .idle ∧ (startPart.lane 1).queue = []
      ∧ (startPart.lane 2).state ≠ .idle ∧ startPart.stepAt ⟨entryT, 0, 1, false⟩ = some stepT
      ∧ startPart.stepAt ⟨entryP 0, 0, 1, false⟩ = some stepT ∧ (idlePart.lane 0).queue = [entryT] := by decide +kernel

/-- Every clause of the step boundary procedure, at a part whose TIME step has run its 10 ticks: a STEP entry and the four moves of a PLAY
entry, in RUNNING with a queue, with HOLD and with REST, in PAUSING and in STOPPING. -/
def boundaryParts : List State :=
  [curT, curP 2 0 1 false, curP 0 1 1 false, curP 2 1 1 false, curP 2 1 2 false, curP 2 1 1 true].flatMap fun c =>
    [part (lane0 .running [entryT] (some c) (some runT)), part (lane0 .running [] (some c) (some runT)),
     part { lane0 .running [] (some c) (some runT) with config := { cfg with endAction := .hold } },
     part (lane0 .pausing [entryT] (some c) (some runT)), part (lane0 .stopping [] (some c) (some { runT with amended := true }))]

theorem test_meets_StepEndTimer :
    boundaryParts.all (fun s => decide ((s.lane 0).run ≠ none ∧ (s.lane 0).current ≠ none) && s.endTimerDue 0) = true := by decide +kernel

/-- One tick before the end the timer is not due. -/
theorem test_boundary_not_yet :
    ({ playing .running with now := 999 } : State).endTimerDue 0 = false ∧ (playing .running).endTimerDue 0 = true := by decide +kernel

def edgePart (past : Bool) (a : TimeoutAction) : State :=
  part { lane0 .running [] (some ⟨⟨7, .step stepE⟩, 0, 1, false⟩) (some { runE with pastBlanking := past }) with
    config := { cfg with timeoutAction := a } }

theorem test_meets_BlankingAndTimeout :
    ({ edgePart false .note with now := 992 } : State).blankingDue 0 = true ∧ ({ edgePart false .note with now := 991 } : State).blankingDue 0 = false
      ∧ (edgePart true .note).timeoutDue 0 = true ∧ (edgePart true .fault).timeoutDue 0 = true
      ∧ ({ edgePart true .note with now := 999 } : State).timeoutDue 0 = false := by decide +kernel

def trg (s : State) (v : Level) : State := s.setTrigger 0 ⟨v, true, 998⟩

theorem test_meets_TriggerEdge :
    (trg (edgePart true .note) .low).phase ≠ .held ∧ ((trg (edgePart true .note) .low).trigger 0).adopted = true
      ∧ ((trg (edgePart true .note) .low).trigger 0).level = .low ∧ ((trg (edgePart true .note) .low).trigger 0).since + 2 ≤ 1000
      ∧ ((trg (edgePart true .note) .low).lane 0).config.trigger = some 0 ∧ ((trg (edgePart false .note) .high).trigger 0).level = .high
      ∧ (idlePart.trigger 0).adopted = false ∧ ¬ 998 + 2 ≤ 999 := by decide +kernel

/-- Edge, sync edge, cause and report at blocks that take them, and at blocks that do nothing. -/
theorem test_meets_Taken :
    ((edgePart true .note).take (.edge 0 .rising)).setOff ≠ [] ∧ (edgePart true .note).take (.edge 0 .falling) = edgePart true .note
      ∧ (edgePart false .note).take (.edge 0 .rising) = edgePart false .note ∧ idlePart.take (.edge 0 .rising) = idlePart
      ∧ ((part (lane0 .armed [entryT] none none)).take (.syncEdge 0)).setOff = sent [.laneState 0 .running .sync]
      ∧ idlePart.take (.syncEdge 0) = idlePart
      ∧ (((playing .running).take (.safe 0 .keepalive)).lane 0).state = .safe
      ∧ (part (lane0 .safe [] none none)).take (.safe 0 .kill) = part (lane0 .safe [] none none)
      ∧ (idlePart.take (.reports [.notice .resetDone])).tx.queue = [.report 0 (.notice .resetDone)] := by decide +kernel

def followPart (past : Bool) : State :=
  part { lane0 .running [] (some ⟨⟨7, .step stepF⟩, 0, 1, false⟩) (some ⟨stepF, 990, past, false⟩) with config := { cfg with leader := some 1 } }

/-- Lane 1 leads: RUNNING, its PLAY entry of slot 3 at its first step, whose 10 ticks are over. -/
def leadPart (past : Bool) : State :=
  (followPart past).updLane 1 fun r => { r with state := .running, current := some (curP 2 0 1 false), run := some runT }

theorem test_meets_LeaderBoundary :
    ((followPart true).lane 0).run = some ⟨stepF, 990, true, false⟩ ∧ ((followPart false).lane 0).run = some ⟨stepF, 990, false, false⟩
      ∧ ((followPart true).take (.leaderBoundary 0)).lane 0 ≠ (followPart true).lane 0
      ∧ (followPart false).take (.leaderBoundary 0) = followPart false
      ∧ ((leadPart true).lane 0).config.leader = some 1 ∧ ((leadPart true).lane 1).run = some runT
      ∧ ((leadPart true).lane 1).state = .running ∧ ((leadPart true).slot 3).steps[1]? = some stepT
      ∧ SetOff.leaderBoundary 0 ∈ (stepOn (leadPart true) (.stepEndTimer 1)).setOff := by decide +kernel

/-- The nine lane states, each with the current entry and step that Table 5-1 gives it. -/
def nineStates : List State :=
  [part (lane0 .off [] none none), idlePart, part (lane0 .armed [entryT] none none), playing .running, part (lane0 .starved [] none none),
   playing .pausing, part (lane0 .paused [] (some (curP 2 0 2 false)) none), playing .stopping, part (lane0 .safe [] none none)]

theorem test_meets_LaneStates :
    (nineStates.map fun s => (s.lane 0).state) = [.off, .idle, .armed, .running, .starved, .pausing, .paused, .stopping, .safe] := by
  decide +kernel

theorem test_meets_Resume :
    (part (lane0 .paused [] (some (curP 2 0 2 false)) none)).stepAt (curP 2 0 2 false) = some stepT
      ∧ ((part (lane0 .paused [entryT] none none)).lane 0).current = none ∧ ((part (lane0 .paused [entryT] none none)).lane 0).queue ≠ []
      ∧ ((part (lane0 .paused [] none none)).lane 0).queue = [] ∧ cfg.endAction = .rest := by decide +kernel

theorem test_meets_Stop :
    1 < (2#8).toNat ∧ (1#8).toNat ≤ 1
      ∧ (nineStates.map fun s => answeredWith s (.stop 0 0))
        = [some .wrongState, some .wrongState, some .ok, some .ok, some .ok, some .ok, some .ok, some .ok, some .wrongState]
      ∧ (nineStates.map fun s => answeredWith s (.stop 0 1))
        = [some .wrongState, some .wrongState, some .ok, some .ok, some .ok, some .ok, some .ok, some .ok, some .wrongState] := by
  decide +kernel

theorem test_meets_Break :
    ((part (lane0 .running [] (some (curP 0 1 3 false)) (some runT))).lane 0).current = some ⟨⟨8, .play 3 0⟩, 1, 3, false⟩
      ∧ ((playing .running).lane 0).current = some ⟨⟨7, .step stepT⟩, 0, 1, false⟩ ∧ (idlePart.lane 0).current = none := by decide +kernel

/-- Each check of AMEND, and both effects: 10 ticks have elapsed. -/
theorem test_meets_Amend :
    answeredWith idlePart (.amend 0 7 20) = some .wrongState ∧ answeredWith (playing .running) (.amend 0 7 0) = some .badValue
      ∧ answeredWith (part (lane0 .running [] (some (curP 0 1 3 false)) (some runT))) (.amend 0 8 20) = some .wrongEntry
      ∧ answeredWith (playing .running) (.amend 0 6 20) = some .stale ∧ answeredWith (playing .running) (.amend 0 7 5) = some .tooShort
      ∧ answeredWith (part { lane0 .running [] (some ⟨⟨7, .step stepE⟩, 0, 1, false⟩) (some runE) with config := { cfg with blanking := 6 } })
          (.amend 0 7 6) = some .tooShort
      ∧ (playing .running).elapsed 0 = 10 ∧ answeredWith (playing .running) (.amend 0 7 11) = some .ok
      ∧ ((stepOn (on (playing .running) (.amend 0 7 10)) (.amend 0 7 10)).lane 0).state = .idle
      ∧ ((stepOn (on (playing .running) (.amend 0 7 11)) (.amend 0 7 11)).lane 0).state = .running := by decide +kernel

theorem test_meets_Flush :
    (nineStates.map fun s => answeredWith s (.flush 0))
      = [some .wrongState, some .ok, some .ok, some .ok, some .ok, some .ok, some .ok, some .ok, some .wrongState] := by decide +kernel

def syncPart (v : Level) (d : Drive) (s : State) : State := { s with sync := ⟨v, true, 998, d, 998⟩ }

theorem test_meets_Sync :
    (syncPart .high .idle idlePart).sync.drive = .idle ∧ (syncPart .high (.driving 1) idlePart).sync.drive = .driving 1
      ∧ (syncPart .low (.driving 0) idlePart).sync.drive = .driving 0 ∧ (syncPart .low .idle idlePart).sync.level = .low
      ∧ (syncPart .low .idle idlePart).sync.since + 2 ≤ 1000 ∧ (syncPart .low .idle idlePart).sync.releasedAt + 2 ≤ 1000 := by decide +kernel

def armedPart : State := syncPart .high .idle (part (lane0 .armed [entryT] none none))

theorem test_meets_SyncEdge :
    armedPart.phase ≠ .held ∧ armedPart.sync.adopted = true ∧ armedPart.sync.level = .high
      ∧ (∀ m : LaneNo, (armedPart.lane m).state = .armed → m = 0) ∧ (armedPart.lane 0).run = none ∧ (armedPart.lane 0).queue = [entryT]
      ∧ armedPart.stepAt ⟨entryT, 0, 1, false⟩ = some stepT ∧ (∀ m : LaneNo, (armedPart.lane m).config.leader ≠ some 0)
      ∧ (∀ n : LaneNo, ((syncPart .high .idle idlePart).lane n).state ≠ .armed) := by decide +kernel

theorem test_meets_GuardExpiry :
    (pairPart.line 0).state = .pending 990 ∧ (pairPart.line 0).owner = some 0 ∧ 990 + (pairPart.lane 0).config.guard ≤ pairPart.now
      ∧ pairPart.partner 0 = some 1 ∧ (pairPart.line 1).state = .active ∧ (pairPart.lane 0).state = .running
      ∧ ((pairPart.updLine 1 fun r => { r with state := .inactive }).line 1).state ≠ .active := by decide +kernel

theorem test_meets_Kill :
    (adoptedPart (playing .running)).phase = .started ∧ (adoptedPart (playing .running)).kill.adopted = true
      ∧ (adoptedPart (playing .running)).kill.since + 10 ≤ 1000 ∧ reached (playing .running) = [0]
      ∧ ({ adoptedPart (playing .running) with phase := .starting 0 } : State).phase ≠ .started
      ∧ ({ playing .running with kill := ⟨true, true, 990⟩ } : State).kill.asserted = true ∧ ¬ 990 + 10 ≤ 999 := by decide +kernel

def latePart : State := { playing .running with keepalive := ⟨6000, 0, false⟩ }

theorem test_meets_Keepalive :
    latePart.keepalive.window ≠ 0 ∧ latePart.keepalive.latch = false ∧ latePart.keepalive.remaining = 0
      ∧ (stepOn latePart .keepaliveExpiry).setOff = [.reports [.notice .keepaliveExpired], .safe 0 .keepalive] := by decide +kernel

theorem test_meets_Abort :
    (∃ n : LaneNo, laneIn 15 n = true ∧ ((playing .running).lane n).state ≠ .off) ∧ answeredWith (playing .running) (.abort 0) = some .badValue
      ∧ answeredWith (playing .running) (.abort 15) = some .ok := by decide +kernel

theorem test_meets_ClearFault :
    ((part (lane0 .safe [] none none)).lane 0).state = .safe ∧ (part (lane0 .safe [] none none)).kill.asserted = false
      ∧ answeredWith { part (lane0 .safe [] none none) with kill := ⟨true, true, 990⟩ } (.clearFault 0) = some .killActive
      ∧ answeredWith idlePart (.clearFault 0) = some .wrongState := by decide +kernel

theorem test_meets_FilterAdopts :
    idlePart.phase ≠ .held ∧ idlePart.kill.adopted = false ∧ (adoptedPart idlePart).kill.adopted = true
      ∧ ({ idlePart with phase := .starting 0 } : State).phase ≠ .started ∧ (idlePart.trigger 0).adopted = false
      ∧ ((trg idlePart .high).trigger 0).adopted = true
      ∧ (idlePart.trigger 0).since + 2 ≤ 1000 ∧ idlePart.sync.adopted = false ∧ idlePart.sync.drive = .idle ∧ idlePart.kill.since + 10 ≤ 1000 := by decide +kernel

theorem test_meets_Pins :
    State.reset.phase = .held ∧ idlePart.phase ≠ .held ∧ State.reset.sync.drive = .idle
      ∧ (syncPart .low (.driving 3) idlePart).sync.drive = .driving 3 ∧ State.reset.tx.queue = [] := by decide +kernel

/-- A receiver within a frame, at a byte of PING's frame, and what each kind of character is. -/
def receiving (buffer : List Byte) : State := { idlePart with rx := { idlePart.rx with state := .inFrame buffer 0 } }

theorem test_meets_Receiver :
    idlePart.phase ≠ .held ∧ idlePart.rx.state = .hunting ∧ (receiving []).rx.state = .inFrame [] 0
      ∧ ((1#8).toNat < 2 ∨ 242 < (1#8).toNat) ∧ ((243#8).toNat < 2 ∨ 242 < (243#8).toNat) ∧ 2 ≤ (2#8).toNat ∧ (242#8).toNat ≤ 242
      ∧ (oddOnes 1 = true ∧ oddOnes 3 = false)
      ∧ (frameOf .ping).body ++ Half.bytes (crc (frameOf .ping).body) = [2, 3, 0x5A, 0x0C, 0x10]
      ∧ ((receiving [2, 3, 0x5A, 0x0C]).rx.state = .inFrame [2, 3, 0x5A, 0x0C] 0) ∧ [3#8, 0x5A, 0x0C].length + 1 = (2#8).toNat + 2
      ∧ [3#8, 0x5A].length + 1 < (2#8).toNat + 2 ∧ (frameOf .ping).wf = true := by decide +kernel

/-- With parity EVEN and ODD in force: a character whose parity bit disagrees, and one whose bit agrees. -/
theorem test_meets_Receiver_parity :
    ([Parity.even, .odd].map fun p =>
        let s : State := { idlePart with settings := ⟨.r9600, p⟩ }
        ((stepOn s (.characterReceived ⟨false, 0xC5, p == .even, true⟩)).rx.counters.parity,
          (stepOn s (.characterReceived ⟨false, 0xC5, p == .odd, true⟩)).rx.state))
      = [(1, .inFrame [] 0), (1, .inFrame [] 0)] := by decide +kernel

/-- The receiver hears nothing, and no more than nothing, for a framing error at 1000, until a bit and a character have passed at 115200 bit/s. -/
theorem test_meets_QuietFor :
    QuietFor idlePart 1 ∧ QuietFor { idlePart with now := 1955, rx := { idlePart.rx with quietFrom := some 1000 } } 1
      ∧ ¬ QuietFor { idlePart with now := 1954, rx := { idlePart.rx with quietFrom := some 1000 } } 1 := by
  refine ⟨fun t h => ?_, fun t h => ?_, fun h => ?_⟩
  · exact nomatch (show (none : Option Nat) = some t from h)
  · obtain rfl : 1000 = t := by simpa using h
    decide +kernel
  · exact absurd (h 1000 rfl) (by decide +kernel)

theorem test_receiver_crc :
    (stepOn (receiving [2, 3, 0x5A, 0x0C]) (.characterReceived ⟨false, 0x10, true, true⟩)).rx.inbound = [frameOf .ping]
      ∧ (stepOn (receiving [2, 3, 0x5A, 0x0C]) (.characterReceived ⟨false, 0x11, true, true⟩)).rx.counters.crc = 1 := by decide +kernel

theorem test_meets_glitch :
    QuietFor { idlePart with now := 1087, rx := { idlePart.rx with quietFrom := some 1000 } } 0
      ∧ ¬ QuietFor { idlePart with now := 1086, rx := { idlePart.rx with quietFrom := some 1000 } } 0 := by
  refine ⟨fun t h => ?_, fun h => absurd (h 1000 rfl) (by decide +kernel)⟩
  obtain rfl : 1000 = t := by simpa using h
  decide +kernel

theorem test_meets_GapAndStartBit :
    20 * (110 * 10000000) ≤ 22000000000 ∧ idlePart.rx.char = none ∧ idlePart.rx.quietFrom = none
      ∧ 10000000 ≤ (1000 - 913) * Rate.r115200.bps ∧ (1000 - 914) * Rate.r115200.bps < 10000000 := by decide +kernel

def inboundFull : State := { idlePart with rx := { idlePart.rx with inbound := List.replicate 4 (frameOf .ping) } }
def outboundFull : State :=
  { inboundFull with tx := { inboundFull.tx with queue := List.replicate 8 (.report 0 (.notice .resetDone)), sending := some ⟨0, idlePart.settings⟩ } }

theorem test_meets_ValidFrame :
    (frameOf .ping).wf = true ∧ idlePart.rx.inbound.length < 4 ∧ 4 ≤ inboundFull.rx.inbound.length ∧ inboundFull.held < 8
      ∧ 8 ≤ outboundFull.held := by decide +kernel

/-- R160: each of the general checks refuses, and the one before it is made first. -/
theorem test_meets_GeneralChecks :
    (([⟨0, 0, []⟩, ⟨0x18, 0, []⟩, ⟨0x80, 0, [0]⟩, ⟨3, 0, [0]⟩, ⟨0x10, 0, []⟩, ⟨0x10, 0, [4, 0]⟩, ⟨0x10, 0, [4]⟩, ⟨0x0A, 0, [4, 0]⟩,
        ⟨0x0A, 0, [4, 9]⟩, ⟨0x0A, 0, [4, 1, 0, 0, 0, 1, 0, 9, 0]⟩, ⟨0x0D, 0, [0, 0, 33]⟩, ⟨0x0B, 0, [16, 0]⟩, ⟨0x16, 0, [16]⟩, ⟨2, 0, [1, 4]⟩] :
        List Frame).map fun f => match decodeFrame f with
          | .error code => some code
          | .ok _ => none)
      = [some .badKind, some .badKind, some .badKind, some .badLength, some .badLength, some .badLength, some .badLane, some .badLength,
         some .badLength, some .badLane, some .badLength, some .badLane, some .badLane, some .badLane] := by decide +kernel

theorem test_meets_FrameTake :
    inboundFull.phase = .started ∧ inboundFull.proc = .idle ∧ inboundFull.rx.inbound ≠ [] ∧ inboundFull.tx.queue.length < 8
      ∧ (on idlePart .ping).proc = .executing (execution .ping) ∧ (execution .ping).answer = none
      ∧ (stepOn (on idlePart .ping) .ping).proc = .executing { execution .ping with answer := some ⟨.ok, .none, none⟩ } := by decide +kernel

/-- A NOTICE is 8 characters of 10 bit times: 80 bit times at 115200 bit/s are over after 6945 base periods, and not after 6944. -/
theorem test_meets_TransmissionEnd :
    (Message.report 0 (.notice .resetDone)).frame.payload.length + 6 = 8
      ∧ 8 * 10 * 10000000 ≤ 6945 * Rate.r115200.bps ∧ 6944 * Rate.r115200.bps < 8 * 10 * 10000000
      ∧ ({ idlePart.offer (.notice .resetDone) with now := 7945 } : State).transmitted = true
      ∧ ({ idlePart.offer (.notice .resetDone) with now := 7944 } : State).transmitted = false := by decide +kernel

theorem test_meets_FramesReadBack : exampleEnqueue.wf = true ∧ exampleEnqueue.frame 7 ≠ none := by decide +kernel

theorem test_meets_FrameCharacters :
    idlePart.phase ≠ .held ∧ idlePart.rx.state = .hunting ∧ idlePart.rx.char = none ∧ idlePart.rx.quietFrom = none
      ∧ (frameOf .ping).wf = true := by decide +kernel

theorem test_meets_Messages :
    (idlePart.offer (.notice .resetDone)).tx.queue = [.report 0 (.notice .resetDone)]
      ∧ (idlePart.offer (.notice .resetDone)).tx.sending = some ⟨1000, idlePart.settings⟩ ∧ (idlePart.offer (.notice .resetDone)).txd = false := by
  decide +kernel

end Sys2Proof.Tests
end

/-! PROOFS. The acts of one lane, followed exactly: `Stands n r rs gone s u` says what lane n has made of s so far, and each shared operation has
one lemma that carries it on. -/

namespace Sys2Proof.Machine

open Sys2Proof.Safety Sys2Proof.Spec

/-- From s to u lane n alone has acted, and no line has changed yet: its record is now r, it has sent the reports rs, and each slot has given
back so many references. -/
structure Stands (n : LaneNo) (r : LaneRec) (rs : List Report) (gone : SlotNo → Nat) (s u : State) : Prop where
  act : LaneAct n s u
  lane : u.lane n = r
  lines : LinesKept s u
  slots : Released gone s u
  faultN : u.faultN = s.faultN
  setOff : u.setOff = s.setOff ++ sent rs

variable {n : LaneNo} {r : LaneRec} {rs : List Report} {gone : SlotNo → Nat} {s u : State}

/-- The acts of lane n leave all else as it was. -/
theorem LaneAct.onlyLane (a : LaneAct n s u) : OnlyLane n s u := by
  refine ⟨?_, a.lane, a.lineElse, a.slot⟩
  have h := a.untouched
  cases u
  simp only [State.mk.injEq, true_and]
  exact ⟨h.now, h.phase, h.triggers, h.sync, h.kill, h.rx, h.settings, h.tx, h.keepalive, h.proc, h.pending, h.choices, h.draws⟩

theorem Stands.start (n : LaneNo) (s : State) : Stands n (s.lane n) [] (fun _ => 0) s s :=
  ⟨LaneAct.refl n s, rfl, fun _ => rfl, fun _ => rfl, rfl, by simp [sent]⟩

theorem Stands.config (h : Stands n r rs gone s u) : r.config = (s.lane n).config := by
  rw [← h.lane, h.act.config]

/-- Nothing given back is no change of the slots. -/
theorem Stands.slotsKept (h : Stands n r rs (fun _ => 0) s u) : SlotsKept s u := h.slots

theorem Stands.holds (h : Stands n r rs gone s u) : Holds n r rs s u :=
  ⟨h.lane, h.lines, h.act.onlyLane, h.faultN, h.setOff⟩

/-! ### Reports -/

theorem Stands.report (h : Stands n r rs gone s u) (x : Report) : Stands n r (rs ++ [x]) gone s (u.report x) :=
  ⟨h.act.trans (laneAct_report u n x), h.lane, h.lines, h.slots, h.faultN, by simp [h.setOff, sent]⟩

/-- Nothing more is sent. -/
theorem Stands.silent (h : Stands n r rs gone s u) : Stands n r (rs ++ []) gone s u := by
  rw [List.append_nil]; exact h

theorem Stands.reportStep (h : Stands n r rs gone s u) (c : Current) (o : StepOutcome) (e : Nat) :
    Stands n r (rs ++ stepReports r.config.policy (.stepEnd n c.entry.serial c.index c.pass o e)) gone s (u.reportStep n c o e) := by
  unfold State.reportStep stepReports
  rw [h.lane]
  split
  · exact h.report _
  · exact h.silent

theorem Stands.tellState (h : Stands n r rs gone s u) (quiet : Bool) (c : Cause) :
    Stands n r (rs ++ if quiet then [] else [.laneState n r.state c]) gone s (u.tellState n quiet c) := by
  unfold State.tellState
  rw [h.lane]
  cases quiet
  · exact h.report _
  · exact h.silent

/-! ### The lane's own record -/

theorem Stands.updLane (h : Stands n r rs gone s u) (f : LaneRec → LaneRec) (hc : (f r).config = r.config)
    (hs : (f r).nextSerial = r.nextSerial) : Stands n (f r) rs gone s (u.updLane n f) where
  act := h.act.trans (laneAct_updLane u n f (by rw [h.lane, hc]) (by rw [h.lane, hs]))
  lane := by rw [lane_updLane_self, h.lane]
  lines := h.lines
  slots := h.slots
  faultN := h.faultN
  setOff := h.setOff

theorem Stands.dropStep (h : Stands n r rs gone s u) : Stands n { r with run := none } rs gone s (u.dropStep n) :=
  h.updLane (fun r => { r with run := none }) rfl rfl

theorem Stands.setLaneState (h : Stands n r rs gone s u) (st : LaneState) : Stands n { r with state := st } rs gone s (u.setLaneState n st) :=
  h.updLane (fun r => { r with state := st }) rfl rfl

/-! ### The library's references -/

/-- One slot after an entry gives back its reference (R65, R66). -/
theorem slot_releaseUse (s : State) (b : EntryBody) (i : SlotNo) :
    (s.releaseUse b).slot i = { s.slot i with useCount := (s.slot i).useCount - if EntryBody.names i b then 1 else 0 } := by
  cases b with
  | step _ => rfl
  | play j _ =>
    simp only [State.releaseUse, slot_updSlot, EntryBody.names, beq_iff_eq]
    by_cases h : i = j
    · simp [h]
    · simp [h, Ne.symm h]

@[simp] theorem lane_releaseUse (s : State) (b : EntryBody) (m : LaneNo) : (s.releaseUse b).lane m = s.lane m := by
  cases b <;> rfl

@[simp] theorem line_releaseUse (s : State) (b : EntryBody) (l : LineNo) : (s.releaseUse b).line l = s.line l := by
  cases b <;> rfl

@[simp] theorem setOff_releaseUse (s : State) (b : EntryBody) : (s.releaseUse b).setOff = s.setOff := by
  cases b <;> rfl

@[simp] theorem faultN_releaseUse (s : State) (b : EntryBody) : (s.releaseUse b).faultN = s.faultN := by
  cases b <;> rfl

theorem Stands.releaseUse (h : Stands n r rs gone s u) (b : EntryBody) :
    Stands n r rs (fun i => gone i + if EntryBody.names i b then 1 else 0) s (u.releaseUse b) where
  act := h.act.trans (laneAct_releaseUse u n b)
  lane := by rw [lane_releaseUse, h.lane]
  lines l := by rw [line_releaseUse, h.lines l]
  slots i := by rw [slot_releaseUse, h.slots i, Nat.sub_sub]
  faultN := by rw [faultN_releaseUse, h.faultN]
  setOff := by rw [setOff_releaseUse, h.setOff]

theorem Stands.releaseAll (es : List Entry) (h : Stands n r rs gone s u) :
    Stands n r rs (fun i => gone i + es.countP fun e => EntryBody.names i e.body) s (es.foldl (fun t e => t.releaseUse e.body) u) := by
  induction es generalizing u gone with
  | nil => simpa using h
  | cons e es ih =>
    have := ih (h.releaseUse e.body)
    simpa only [List.foldl_cons, List.countP_cons, Nat.add_assoc, Nat.add_comm, Nat.add_left_comm] using this

/-- The queue is discarded, and each of its PLAY entries gives back its reference (R43). -/
theorem Stands.discardQueue (h : Stands n r rs gone s u) :
    Stands n { r with queue := [] } rs (fun i => gone i + queuedUses r i) s (u.discardQueue n) := by
  unfold State.discardQueue queuedUses
  rw [h.lane]
  exact (h.releaseAll r.queue).updLane (fun r => { r with queue := [] }) rfl rfl

/-! ### The ends of steps and entries -/

/-- The current entry ends (R85). -/
theorem Stands.endEntry (h : Stands n r rs gone s u) (c : Current) (o : EntryOutcome) (p : Nat) :
    Stands n { r with current := none } (rs ++ entryReports r.config.policy (.entryEnd n c.entry.serial o p))
      (fun i => gone i + if EntryBody.names i c.entry.body then 1 else 0) s (u.endEntry n c o p) := by
  unfold State.endEntry entryReports
  have hr := h.releaseUse c.entry.body
  dsimp only
  rw [hr.lane]
  split
  · exact hr.silent.updLane (fun r => { r with current := none }) rfl rfl
  · exact (hr.report _).updLane (fun r => { r with current := none }) rfl rfl

/-- The references that the current entry of a record holds to a slot. -/
def currentUses (r : LaneRec) (i : SlotNo) : Nat :=
  match r.current with
  | some c => if EntryBody.names i c.entry.body then 1 else 0
  | none => 0

/-- The ENTRY_END of a current entry that is cut or stopped before its present pass ends (R115, R116, R132). -/
def entryCut (n : LaneNo) (r : LaneRec) (o : EntryOutcome) : List Report :=
  match r.current with
  | some c => entryReports r.config.policy (.entryEnd n c.entry.serial o (passesDone c))
  | none => []

/-- The STEP_END of a step that is cut, with so many ticks elapsed (R116, R131). -/
def stepCut (n : LaneNo) (r : LaneRec) (e : Nat) : List Report :=
  match r.run, r.current with
  | some _, some c => stepReports r.config.policy (.stepEnd n c.entry.serial c.index c.pass .cut e)
  | _, _ => []

theorem cutReports_eq (s : State) (n : LaneNo) :
    cutReports s n = stepCut n (s.lane n) (s.elapsed n) ++ entryCut n (s.lane n) .cut := rfl

theorem Stands.cutEntry (h : Stands n r rs gone s u) (o : EntryOutcome) :
    Stands n { r with current := none } (rs ++ entryCut n r o) (fun i => gone i + currentUses r i) s (u.cutEntry n o) := by
  unfold State.cutEntry entryCut currentUses
  rw [h.lane]
  cases hc : r.current with
  | some c => exact h.endEntry c o _
  | none =>
    have hr : { r with current := none } = r := by rw [← hc]
    rw [hr]
    exact h.silent

theorem Stands.cutStep (h : Stands n r rs gone s u) :
    Stands n { r with run := none } (rs ++ stepCut n r (u.elapsed n)) gone s (u.cutStep n) := by
  unfold State.cutStep stepCut
  rw [h.lane]
  cases hr : r.run with
  | some x =>
    cases hc : r.current with
    | some c => simpa only [hc] using (h.reportStep c .cut (u.elapsed n)).dropStep
    | none => simpa only [hc] using h.silent.dropStep
  | none =>
    have he : { r with run := none } = r := by rw [← hr]
    rw [he]
    exact h.silent

end Sys2Proof.Machine

/-! PROOFS. The stages of the step boundary procedure and of the entry to SAFE, out of a state that lane n has brought about so far: each ends in
the outcome that the statements name for it. -/

namespace Sys2Proof.Machine

open Sys2Proof.Safety Sys2Proof.Spec

variable {n : LaneNo} {r : LaneRec} {rs : List Report} {gone : SlotNo → Nat} {s u : State}

/-- Table 1-4 as the statements write it is the model's. -/
theorem patterned_eq_applied (now : Nat) (named : Bool) (st : LineState) : patterned now named st = st.applied now named := by
  cases st <;> rfl

/-! ### What the stages leave of the slots -/

@[simp] theorem slot_applyPattern (s : State) (n : LaneNo) (p : LineSet) (i : SlotNo) : (s.applyPattern n p).slot i = s.slot i := rfl

@[simp] theorem slot_goIdle (s : State) (n : LaneNo) (i : SlotNo) : (s.goIdle n).slot i = s.slot i := rfl

@[simp] theorem slot_tellState (s : State) (n : LaneNo) (quiet : Bool) (c : Cause) (i : SlotNo) :
    (s.tellState n quiet c).slot i = s.slot i := by
  cases quiet <;> rfl

@[simp] theorem slot_beginStep (s : State) (n : LaneNo) (c : Current) (i : SlotNo) : (s.beginStep n c).slot i = s.slot i := by
  unfold State.beginStep
  dsimp only
  split <;> rfl

@[simp] theorem slot_beginHead (s : State) (n : LaneNo) (i : SlotNo) : (s.beginHead n).slot i = s.slot i := by
  unfold State.beginHead
  split
  · rw [slot_beginStep, slot_updLane]
  · rfl

@[simp] theorem slot_nextStep (s : State) (n : LaneNo) (quiet : Bool) (i : SlotNo) : (s.nextStep n quiet).slot i = s.slot i := by
  unfold State.nextStep
  split
  · exact slot_beginStep s n _ i
  · exact slot_beginHead s n i
  · split
    · rw [slot_tellState, slot_setLaneState]
    · rw [slot_tellState, slot_goIdle]

/-! ### Stage 7: a step begins -/

/-- One line after a step has begun (R88). -/
theorem line_beginStep {s : State} {n : LaneNo} {c : Current} {st : Step} (h : s.stepAt c = some st) (l : LineNo) :
    (s.beginStep n c).line l = if (s.line l).owner = some n
      then { s.line l with state := (s.line l).state.applied s.now (lineIn st.active l) } else s.line l := by
  rw [beginStep_of_step h, State.tellFollowers, line_sets, line_updLane, line_applyPattern, line_updLane, updLane_now]

theorem faultN_beginStep {s : State} {n : LaneNo} {c : Current} {st : Step} (h : s.stepAt c = some st) :
    (s.beginStep n c).faultN = s.faultN := by
  rw [beginStep_of_step h]; rfl

theorem Stands.stepAt (h : Stands n r rs gone s u) (c : Current) : u.stepAt c = s.stepAt c :=
  stepAt_congr (fun i => by rw [h.slots i]) c

/-- The step at the cursor begins (R88, R89). -/
theorem Stands.begins (h : Stands n r rs gone s u) {c : Current} {st : Step} (hst : s.stepAt c = some st) :
    Begins n r c st rs s (u.beginStep n c) := by
  have hu : u.stepAt c = some st := (h.stepAt c).trans hst
  refine ⟨?_, ?_, (h.act.trans (laneAct_beginStep u n c)).onlyLane, (faultN_beginStep hu).trans h.faultN, ?_⟩
  · rw [lane_beginStep hu, h.lane, h.act.untouched.now]; rfl
  · intro l hl
    rw [line_beginStep hu, h.lines l, if_pos hl, h.act.untouched.now, patterned_eq_applied]
  · rw [setOff_beginStep hu, h.setOff, followers_congr h.act.config]
    rfl

/-! ### Rest -/

/-- Lane n goes to IDLE with its rest set applied (R92). -/
theorem Stands.rests (h : Stands n r rs gone s u) (quiet : Bool) (c : Cause) :
    Rests n { r with state := .idle } (rs ++ if quiet then [] else [.laneState n .idle c]) s ((u.goIdle n).tellState n quiet c) := by
  have hlane : (u.goIdle n).lane n = { r with state := .idle } := by
    rw [State.goIdle, lane_setLaneState_self, lane_applyRest, h.lane]
  have htell : ∀ v : State, (v.tellState n quiet c).lane n = v.lane n ∧ (v.tellState n quiet c).faultN = v.faultN
      ∧ (∀ l, (v.tellState n quiet c).line l = v.line l)
      ∧ (v.tellState n quiet c).setOff = v.setOff ++ sent (if quiet then [] else [.laneState n (v.lane n).state c]) := by
    intro v
    cases quiet <;> simp [State.tellState, sent]
  obtain ⟨hl, hf, hlines, hset⟩ := htell (u.goIdle n)
  refine ⟨hl.trans hlane, ?_, (h.act.trans ((laneAct_goIdle u n).trans (laneAct_tellState _ n n quiet c))).onlyLane, hf.trans h.faultN, ?_⟩
  · intro l ho
    rw [hlines l, State.goIdle, line_setLaneState, State.applyRest, line_applyPattern, h.lines l, if_pos ho, h.lane, h.act.untouched.now,
      patterned_eq_applied]
  · have hs : (u.goIdle n).setOff = u.setOff := rfl
    rw [hset, hlane, hs, h.setOff]
    simp [sent]

/-! ### Stages 4 to 7 -/

/-- Stages 6 and 7 of a lane with no current entry (R87, R88). -/
theorem Stands.goes (h : Stands n r rs gone s u) (hc : r.current = none) (quiet : Bool) : Goes n r rs quiet s (u.nextStep n quiet) := by
  have hcu : (u.lane n).current = none := by rw [h.lane, hc]
  refine ⟨fun e rest st hq hst => ?_, fun hq ha => ?_, fun hq ha => ?_⟩
  · rw [nextStep_of_queue hcu (by rw [h.lane, hq])]
    exact (h.updLane (fun r => { r with queue := rest }) rfl rfl).begins hst
  · rw [nextStep_hold hcu (by rw [h.lane, hq]) (by rw [h.lane, ha])]
    exact ((h.setLaneState .starved).tellState quiet .starved).holds
  · rw [nextStep_rest hcu (by rw [h.lane, hq]) (by rw [h.lane, ha])]
    exact h.rests quiet .completed

/-- References counted from none given back. -/
theorem Stands.fromNone (h : Stands n r rs (fun i => 0 + gone i) s u) : Stands n r rs gone s u := by
  simpa only [Nat.zero_add] using h

/-- The step is no timeout of a lane whose timeout action is FAULT, so that stage 2 leaves the lane in play (R82). -/
def noFault (r : LaneRec) (o : StepOutcome) : Prop := ¬ (o = .timeout ∧ r.config.timeoutAction = .fault)

theorem afterStep_stopping {c : Current} {o : StepOutcome} {quiet : Bool} (ho : noFault (u.lane n) o)
    (hs : (u.lane n).state = .stopping) : u.afterStep n c o quiet = u.stopHere n c quiet := by
  rw [State.afterStep, if_neg ho, if_pos hs]

theorem afterStep_pausing {c : Current} {o : StepOutcome} {quiet : Bool} (ho : noFault (u.lane n) o)
    (hs : (u.lane n).state = .pausing) : u.afterStep n c o quiet = (u.moveCursor n c).pauseHere n quiet := by
  rw [State.afterStep, if_neg ho, if_neg (by simp [hs]), if_pos hs]

theorem afterStep_playing {c : Current} {o : StepOutcome} {quiet : Bool} (ho : noFault (u.lane n) o)
    (hs : (u.lane n).state ≠ .stopping) (hp : (u.lane n).state ≠ .pausing) :
    u.afterStep n c o quiet = (u.moveCursor n c).nextStep n quiet := by
  rw [State.afterStep, if_neg ho, if_neg hs, if_neg hp]

/-- What stage 3 and stage 4 each leave of the slots, stages 5 to 7 leave too. -/
theorem slot_afterStep {c : Current} {o : StepOutcome} {quiet : Bool} {e : EntryOutcome} {passes : Nat} (ho : noFault (u.lane n) o)
    (hm : c.move u.filled = .ends e passes) (i : SlotNo) :
    (u.afterStep n c o quiet).slot i = (u.endEntry n c e passes).slot i := by
  by_cases hs : (u.lane n).state = .stopping
  · simp only [afterStep_stopping ho hs, State.stopHere, hm, slot_tellState, slot_goIdle]
  · by_cases hp : (u.lane n).state = .pausing
    · simp only [afterStep_pausing ho hp, State.moveCursor, hm, State.pauseHere, slot_tellState, slot_setLaneState]
    · simp only [afterStep_playing ho hs hp, State.moveCursor, hm, slot_nextStep]

/-- The boundary at which the current entry ends (R83 to R88). -/
theorem Stands.entryEnds (h : Stands n { s.lane n with run := none } rs (fun _ => 0) s u) {c : Current} {o : StepOutcome} {quiet : Bool}
    {e : EntryOutcome} {passes : Nat} (ho : noFault (s.lane n) o) (hm : c.move u.filled = .ends e passes) :
    EntryEnds n c e passes rs quiet s (u.afterStep n c o quiet) := by
  have hend := (h.endEntry c e passes).fromNone
  have hcur : u.moveCursor n c = u.endEntry n c e passes := by simp only [State.moveCursor, hm]
  have hou : noFault (u.lane n) o := by rw [h.lane]; exact ho
  have hst : (u.lane n).state = (s.lane n).state := by rw [h.lane]
  refine ⟨fun i => ?_, fun hs => ?_, fun hs => ?_, fun hs => ?_⟩
  · rw [slot_afterStep hou hm, hend.slots i]
  · rw [afterStep_stopping hou (hst.trans hs)]
    simp only [State.stopHere, hm]
    exact hend.rests quiet .stopped
  · rw [afterStep_pausing hou (hst.trans hs), hcur]
    exact ((hend.setLaneState .paused).tellState quiet .paused).holds
  · have hs : (s.lane n).state = .running := hs
    rw [afterStep_playing hou (by simp [hst, hs]) (by simp [hst, hs]), hcur]
    exact hend.goes rfl quiet

/-- The boundary at which the current entry goes on at another cursor (R83, R84, R86, R88). -/
theorem Stands.entryGoesOn (h : Stands n { s.lane n with run := none } rs (fun _ => 0) s u) {c c' : Current} {o : StepOutcome} {quiet : Bool}
    (ho : noFault (s.lane n) o) (hm : c.move u.filled = .continues c') : EntryGoesOn n c c' rs quiet s (u.afterStep n c o quiet) := by
  have hnext := h.updLane (fun r => { r with current := some c' }) rfl rfl
  have hend := (h.endEntry c .stopped (c'.pass - 1)).fromNone
  have hcur : u.moveCursor n c = u.updLane n fun r => { r with current := some c' } := by simp only [State.moveCursor, hm]
  have hou : noFault (u.lane n) o := by rw [h.lane]; exact ho
  have hst : (u.lane n).state = (s.lane n).state := by rw [h.lane]
  refine ⟨fun hs => ?_, fun hs => ?_, fun hs st hst' => ?_⟩
  · rw [afterStep_stopping hou (hst.trans hs)]
    simp only [State.stopHere, hm]
    refine ⟨hend.rests quiet .stopped, fun i => ?_⟩
    rw [slot_tellState, slot_goIdle, hend.slots i]
  · have hp := (hnext.setLaneState .paused).tellState quiet .paused
    rw [afterStep_pausing hou (hst.trans hs), hcur]
    exact ⟨hp.holds, hp.slotsKept⟩
  · have hs : (s.lane n).state = .running := hs
    rw [afterStep_playing hou (by simp [hst, hs]) (by simp [hst, hs]), hcur, nextStep_of_current (by rw [hnext.lane])]
    refine ⟨hnext.begins hst', fun i => ?_⟩
    rw [slot_beginStep, hnext.slots i, Nat.sub_zero]

/-- The step boundary procedure, for a step that no timeout fault ends (R80 to R88). -/
theorem boundary_taken {s : State} {n : LaneNo} {c : Current} {o : StepOutcome} {ticks : Nat} {quiet : Bool}
    (hc : (s.lane n).current = some c) (ho : noFault (s.lane n) o) :
    BoundaryTaken n c o ticks quiet s (s.boundary n o ticks quiet) := by
  have h := ((Stands.start n s).reportStep c o ticks).dropStep
  rw [List.nil_append] at h
  have hf : ((s.reportStep n c o ticks).dropStep n).filled = fun i => (s.slot i).steps.length := by
    funext i
    rw [State.filled, Slot.filled, h.slots i]
  have hb : s.boundary n o ticks quiet = ((s.reportStep n c o ticks).dropStep n).afterStep n c o quiet := by
    simp only [State.boundary, hc]
  rw [hb]
  obtain ⟨⟨serial, body⟩, i, p, b⟩ := c
  cases body with
  | step st => exact h.entryEnds ho (move_step serial st i p b _)
  | play slot k =>
    refine ⟨fun hi => h.entryGoesOn ho (move_within (hf ▸ hi)), fun hi => ⟨fun hbr => ?_, fun hbr hk (hp : p = k) => ?_, fun hbr hk => ?_⟩⟩
    · cases hbr
      exact h.entryEnds ho (move_broken (hf ▸ hi))
    · cases hbr
      subst hp
      exact h.entryEnds ho (move_done (hf ▸ hi) hk)
    · cases hbr
      exact h.entryGoesOn ho (move_again (hf ▸ hi) hk)

/-! ### The entry to SAFE -/

/-- The LANE_STATE of an entry to SAFE (R131, Table 8-1). -/
def safeReport (n : LaneNo) (c : SafeCause) : List Report :=
  match c.report with
  | some cause => [.laneState n .safe cause]
  | none => []

theorem safeReports_eq (s : State) (n : LaneNo) (c : SafeCause) :
    safeReports s n c = stepCut n (s.lane n) (s.elapsed n) ++ entryCut n (s.lane n) .cut ++ safeReport n c := by
  unfold safeReports
  rw [cutReports_eq]
  cases c <;> rfl

/-- The references that a lane's queue and current entry hold are its uses. -/
theorem uses_eq (i : SlotNo) (r : LaneRec) : uses i r = currentUses r i + queuedUses r i := by
  rw [uses, Nat.add_comm]; rfl

/-- The state in which the first three stages of the entry to SAFE leave the lane: nothing in play, nothing queued (R131). -/
theorem stands_emptied (s : State) (n : LaneNo) :
    Stands n { s.lane n with run := none, current := none, queue := [] } (stepCut n (s.lane n) (s.elapsed n) ++ entryCut n (s.lane n) .cut)
      (fun i => uses i (s.lane n)) s (((s.cutStep n).cutEntry n .cut).discardQueue n) := by
  have h := (((Stands.start n s).cutStep).cutEntry .cut).discardQueue
  simp only [List.nil_append, Nat.zero_add] at h
  simp only [uses_eq]
  exact h

@[simp] theorem line_reportSafe (s : State) (n : LaneNo) (c : SafeCause) (l : LineNo) : (s.reportSafe n c).line l = s.line l := by
  unfold State.reportSafe; split <;> rfl

@[simp] theorem slot_reportSafe (s : State) (n : LaneNo) (c : SafeCause) (i : SlotNo) : (s.reportSafe n c).slot i = s.slot i := by
  unfold State.reportSafe; split <;> rfl

theorem setOff_reportSafe (s : State) (n : LaneNo) (c : SafeCause) : (s.reportSafe n c).setOff = s.setOff ++ sent (safeReport n c) := by
  unfold State.reportSafe safeReport
  cases c.report <;> simp [sent]

/-- Stages 4 to 6 of the entry to SAFE, out of any state (R131). -/
def State.safeTail (v : State) (n : LaneNo) (c : SafeCause) : State :=
  State.reportSafe { (v.applySafe n).setLaneState n .safe with faultN := true } n c

theorem safeStages_eq (s : State) (n : LaneNo) (c : SafeCause) :
    s.safeStages n c = (((s.cutStep n).cutEntry n .cut).discardQueue n).safeTail n c := rfl

theorem line_safeTail (v : State) (n : LaneNo) (c : SafeCause) (l : LineNo) :
    (v.safeTail n c).line l = if (v.line l).owner = some n then { v.line l with state := (v.line l).safeLevel.state } else v.line l := by
  rw [State.safeTail, line_reportSafe]
  exact line_applySafe v n l

theorem slot_safeTail (v : State) (n : LaneNo) (c : SafeCause) (i : SlotNo) : (v.safeTail n c).slot i = v.slot i := by
  rw [State.safeTail, slot_reportSafe]
  rfl

theorem setOff_safeTail (v : State) (n : LaneNo) (c : SafeCause) : (v.safeTail n c).setOff = v.setOff ++ sent (safeReport n c) := by
  rw [State.safeTail, setOff_reportSafe]
  rfl

/-- One line after the stages of the entry to SAFE (R12). -/
theorem line_safeStages (s : State) (n : LaneNo) (c : SafeCause) (l : LineNo) :
    (s.safeStages n c).line l = if (s.line l).owner = some n then { s.line l with state := (s.line l).safeLevel.state } else s.line l := by
  rw [safeStages_eq, line_safeTail, (stands_emptied s n).lines l]

theorem slot_safeStages (s : State) (n : LaneNo) (c : SafeCause) (i : SlotNo) :
    (s.safeStages n c).slot i = { s.slot i with useCount := (s.slot i).useCount - uses i (s.lane n) } := by
  rw [safeStages_eq, slot_safeTail, (stands_emptied s n).slots i]

theorem setOff_safeStages (s : State) (n : LaneNo) (c : SafeCause) : (s.safeStages n c).setOff = s.setOff ++ sent (safeReports s n c) := by
  rw [safeStages_eq, setOff_safeTail, (stands_emptied s n).setOff, safeReports_eq]
  simp [sent]

/-- A cause of safe hold at a lane neither OFF nor in SAFE (R129, R131). -/
theorem enterSafe_entersSafe {s : State} {n : LaneNo} (c : SafeCause) (ho : (s.lane n).state ≠ .off) (hs : (s.lane n).state ≠ .safe) :
    EntersSafe n c s (s.enterSafe n c) := by
  have hact := laneAct_safeStages s n c
  rw [enterSafe_of ho hs]
  refine ⟨hact.onlyLane, ⟨fun m => ?_, ?_, fun l hl => ?_, fun i => ?_, ?_⟩, setOff_safeStages s n c⟩
  · by_cases hm : m = n
    · subst hm
      rw [if_pos (List.mem_singleton.2 rfl), lane_safeStages]; rfl
    · rw [if_neg (by simpa using hm), hact.lane m hm]
  · intro m hm l hl
    obtain rfl := List.mem_singleton.1 hm
    rw [line_safeStages, if_pos hl]
    cases (s.line l).safeLevel <;> rfl
  · exact hact.lineElse l (hl n (List.mem_singleton.2 rfl))
  · rw [slot_safeStages]; simp
  · rw [faultN_safeStages]; simp

end Sys2Proof.Machine

/-! PROOFS. All that an act of one lane can do to that lane, its lines and FAULT_N, said once for the invariants: `LaneMove` for the acts that
make up an event, and `LaneTurn` for a whole event. -/

namespace Sys2Proof.Machine

open Sys2Proof.Safety Sys2Proof.Spec

/-! ### What a lane's act can lead to -/

/-- Nothing queued, nothing current, no step in progress (R129). -/
def LaneRec.bare (r : LaneRec) : Prop := r.queue = [] ∧ r.current = none ∧ r.run = none

/-- The five states in which a lane's lines show a pattern of its own (Table 5-1). -/
def LaneState.inPlay : LaneState → Bool
  | .running | .starved | .pausing | .paused | .stopping => true
  | .off | .idle | .armed | .safe => false

/-- The two states in which a lane's lines show its rest set (R30, R71). -/
def LaneState.atRest (st : LaneState) : Prop := st = .idle ∨ st = .armed

/-- The same state, or both at rest. -/
def LaneState.alike (a b : LaneState) : Prop := a = b ∨ a.atRest ∧ b.atRest

theorem LaneState.alike.trans {a b c : LaneState} (h : a.alike b) (k : b.alike c) : a.alike c := by
  obtain rfl | ⟨ha, hb⟩ := h
  · exact k
  · obtain rfl | ⟨-, hc⟩ := k
    · exact Or.inr ⟨ha, hb⟩
    · exact Or.inr ⟨ha, hc⟩

theorem LaneState.alike.eq {a b : LaneState} (h : a.alike b) (ha : ¬ a.atRest) : b = a := by
  obtain rfl | ⟨h, -⟩ := h
  · rfl
  · exact absurd h ha

theorem LaneState.not_atRest_of_inPlay {a : LaneState} (h : a.inPlay = true) : ¬ a.atRest := by
  rintro (rfl | rfl) <;> cases h

/-- What lane n, its lines and FAULT_N can come to by its own acts: as they were but for the lane's record, in play, at rest, or in SAFE. -/
inductive Outcome (n : LaneNo) (s t : State) : Prop where
  | stays (state : (s.lane n).state.alike (t.lane n).state) (bare : (s.lane n).state = .safe → (s.lane n).bare → (t.lane n).bare)
      (lines : LinesKept s t) (fault : t.faultN = s.faultN)
  | plays (state : (t.lane n).state.inPlay = true) (fault : t.faultN = s.faultN)
  | rests (state : (t.lane n).state.atRest)
      (lines : ∀ l, (t.line l).owner = some n → LineState.commanded (t.line l).state = lineIn (t.lane n).config.restSet l)
      (fault : t.faultN = s.faultN)
  | holds (state : (t.lane n).state = .safe) (bare : (t.lane n).bare)
      (lines : ∀ l, (t.line l).owner = some n → (t.line l).state = (t.line l).safeLevel.state) (fault : t.faultN = true)

/-! ### The frame of an act -/

/-- What every act of lane n keeps, whatever it does to its slots and its serials: the blocks outside the lanes, every configuration record, the
other lanes, the lines that lane n does not own, and of its own lines all but the state; and what is in flight goes on standing. -/
structure LaneFrame (n : LaneNo) (s t : State) : Prop where
  untouched : Untouched s t
  config : ∀ m, (t.lane m).config = (s.lane m).config
  lane : ∀ m, m ≠ n → t.lane m = s.lane m
  line : ∀ l, t.line l = { s.line l with state := (t.line l).state }
  lineElse : ∀ l, (s.line l).owner ≠ some n → t.line l = s.line l
  stands : ∀ e, e ∈ s.setOff → e ∈ t.setOff

theorem LaneAct.frame {n : LaneNo} {s t : State} (a : LaneAct n s t) : LaneFrame n s t :=
  ⟨a.untouched, a.config, a.lane, a.line, a.lineElse, fun _ h => a.stands h⟩

theorem LaneFrame.owner {n : LaneNo} {s t : State} (a : LaneFrame n s t) (l : LineNo) : (t.line l).owner = (s.line l).owner := by
  rw [a.line l]

theorem LaneFrame.safeLevel {n : LaneNo} {s t : State} (a : LaneFrame n s t) (l : LineNo) :
    (t.line l).safeLevel = (s.line l).safeLevel := by
  rw [a.line l]

theorem LaneFrame.partner {n : LaneNo} {s t : State} (a : LaneFrame n s t) (l : LineNo) : t.partner l = s.partner l := by
  simp only [State.partner]; rw [a.line l]

theorem LaneFrame.trans {n : LaneNo} {s t u : State} (a : LaneFrame n s t) (b : LaneFrame n t u) : LaneFrame n s u where
  untouched := a.untouched.trans b.untouched
  config m := (b.config m).trans (a.config m)
  lane m h := (b.lane m h).trans (a.lane m h)
  line l := by rw [b.line l, a.line l]
  lineElse l h := (b.lineElse l (by rw [a.owner l]; exact h)).trans (a.lineElse l h)
  stands e h := b.stands e (a.stands e h)

/-- Each step in progress of lane n after is one begun now, or one that was in progress before. -/
def RunsKept (n : LaneNo) (s t : State) : Prop :=
  ∀ r, (t.lane n).run = some r → ∃ q, (s.lane n).run = some q ∧ r.startedAt = q.startedAt

/-- Lane n's own record alone changes, and not the state it is in. -/
structure LaneStay (n : LaneNo) (s t : State) : Prop extends LaneFrame n s t where
  state : (s.lane n).state.alike (t.lane n).state
  bare : (s.lane n).state = .safe → (s.lane n).bare → (t.lane n).bare
  runs : RunsKept n s t
  lines : LinesKept s t
  fault : t.faultN = s.faultN

/-- Lane n moves: no line becomes ACTIVE, a line that becomes PENDING and a step that begins do so now, and the lane comes to one of its
outcomes. -/
structure LaneMove (n : LaneNo) (s t : State) : Prop extends LaneFrame n s t where
  active : ∀ l, (t.line l).state = .active → (s.line l).state = .active
  since : ∀ l x, (t.line l).state = .pending x → (s.line l).state = .pending x ∨ x = s.now
  began : ∀ r, (t.lane n).run = some r → r.startedAt = s.now ∨ ∃ q, (s.lane n).run = some q ∧ r.startedAt = q.startedAt
  outcome : Outcome n s t

variable {n : LaneNo} {r : LaneRec} {rs : List Report} {gone : SlotNo → Nat} {s t u : State}

theorem LaneStay.refl (n : LaneNo) (s : State) : LaneStay n s s :=
  { (LaneAct.refl n s).frame with
    state := Or.inl rfl, bare := fun _ h => h, runs := fun r h => ⟨r, h, rfl⟩, lines := fun _ => rfl, fault := rfl }

theorem LaneStay.trans (a : LaneStay n s t) (b : LaneStay n t u) : LaneStay n s u :=
  { a.toLaneFrame.trans b.toLaneFrame with
    state := a.state.trans b.state
    bare := fun hs hb => b.bare ((a.state.eq (by simp [LaneState.atRest, hs])).trans hs) (a.bare hs hb)
    runs := fun r h => by
      obtain ⟨q, hq, hr⟩ := b.runs r h
      obtain ⟨p, hp, hq'⟩ := a.runs q hq
      exact ⟨p, hp, hr.trans hq'⟩
    lines := fun l => (b.lines l).trans (a.lines l)
    fault := b.fault.trans a.fault }

/-- A lane that stays moves after. -/
theorem LaneStay.andMoves (a : LaneStay n s t) (b : LaneMove n t u) : LaneMove n s u :=
  { a.toLaneFrame.trans b.toLaneFrame with
    active := fun l h => by rw [← a.lines l]; exact b.active l h
    since := fun l x h => by rw [← a.lines l, ← a.untouched.now]; exact b.since l x h
    began := fun r h => by
      obtain hr | ⟨q, hq, hr⟩ := b.began r h
      · exact Or.inl (hr.trans a.untouched.now)
      · obtain ⟨p, hp, hq'⟩ := a.runs q hq
        exact Or.inr ⟨p, hp, hr.trans hq'⟩
    outcome := by
      cases b.outcome with
      | stays st bare lines fault =>
        exact .stays (a.state.trans st) (fun hs hb => bare ((a.state.eq (by simp [LaneState.atRest, hs])).trans hs) (a.bare hs hb))
          (fun l => (lines l).trans (a.lines l)) (fault.trans a.fault)
      | plays st fault => exact .plays st (fault.trans a.fault)
      | rests st lines fault => exact .rests st lines (fault.trans a.fault)
      | holds st bare lines fault => exact .holds st bare lines fault }

/-- To stay is a move. -/
theorem LaneStay.move (a : LaneStay n s t) : LaneMove n s t :=
  { a.toLaneFrame with
    active := fun l h => by rw [← a.lines l]; exact h
    since := fun l x h => Or.inl (by rw [← a.lines l]; exact h)
    began := fun r h => Or.inr (a.runs r h)
    outcome := .stays a.state a.bare a.lines a.fault }

theorem LaneMove.refl (n : LaneNo) (s : State) : LaneMove n s s := (LaneStay.refl n s).move

/-- Reports that a lane sends after its move change nothing of the move. -/
theorem LaneMove.andReports (a : LaneMove n s t) (h : Stands n (t.lane n) rs gone t u) : LaneMove n s u :=
  { a.toLaneFrame.trans h.act.frame with
    active := fun l hl => a.active l (by rw [← h.lines l]; exact hl)
    since := fun l x hl => a.since l x (by rw [← h.lines l]; exact hl)
    began := fun r hr => a.began r (by rw [← h.lane]; exact hr)
    outcome := by
      cases a.outcome with
      | stays st bare lines fault =>
        exact .stays (h.lane ▸ st) (h.lane ▸ bare) (fun l => (h.lines l).trans (lines l)) (h.faultN.trans fault)
      | plays st fault => exact .plays (h.lane ▸ st) (h.faultN.trans fault)
      | rests st lines fault =>
        exact .rests (h.lane ▸ st) (fun l hl => by rw [h.lines l] at hl ⊢; rw [h.lane]; exact lines l hl) (h.faultN.trans fault)
      | holds st bare lines fault =>
        exact .holds (h.lane ▸ st) (h.lane ▸ bare) (fun l hl => by rw [h.lines l] at hl ⊢; exact lines l hl) (h.faultN.trans fault) }

/-- What lane n has made of its own record keeps it in its state. -/
theorem Stands.stay (h : Stands n r rs gone s u) (hst : (s.lane n).state.alike r.state)
    (hb : (s.lane n).state = .safe → (s.lane n).bare → r.bare)
    (hr : ∀ x, r.run = some x → ∃ q, (s.lane n).run = some q ∧ x.startedAt = q.startedAt) : LaneStay n s u :=
  { h.act.frame with state := h.lane ▸ hst, bare := h.lane ▸ hb, runs := fun x hx => hr x (h.lane ▸ hx), lines := h.lines, fault := h.faultN }

/-- What lane n has made of its own record is less than it held: the state, and what still stands of queue, current entry and step, are the
lane's own. -/
theorem Stands.stayLess (h : Stands n r rs gone s u) (hst : r.state = (s.lane n).state)
    (hq : r.queue = (s.lane n).queue ∨ r.queue = []) (hc : r.current = (s.lane n).current ∨ r.current = none)
    (hr : r.run = (s.lane n).run ∨ r.run = none) : LaneStay n s u := by
  refine h.stay (Or.inl hst.symm) (fun _ ⟨bq, bc, br⟩ => ⟨?_, ?_, ?_⟩) (fun x hx => ?_)
  · rcases hq with hq | hq
    · exact hq.trans bq
    · exact hq
  · rcases hc with hc | hc
    · exact hc.trans bc
    · exact hc
  · rcases hr with hr | hr
    · exact hr.trans br
    · exact hr
  · rcases hr with hr | hr
    · exact ⟨x, hr ▸ hx, rfl⟩
    · rw [hr] at hx; cases hx

/-! ### The acts -/

theorem laneStay_dropStep (s : State) (n : LaneNo) : LaneStay n s (s.dropStep n) :=
  (Stands.start n s).dropStep.stayLess rfl (Or.inl rfl) (Or.inl rfl) (Or.inr rfl)

theorem laneStay_reportStep (s : State) (n : LaneNo) (c : Current) (o : StepOutcome) (e : Nat) : LaneStay n s (s.reportStep n c o e) :=
  ((Stands.start n s).reportStep c o e).stayLess rfl (Or.inl rfl) (Or.inl rfl) (Or.inl rfl)

theorem laneStay_endEntry (s : State) (n : LaneNo) (c : Current) (o : EntryOutcome) (p : Nat) : LaneStay n s (s.endEntry n c o p) :=
  ((Stands.start n s).endEntry c o p).stayLess rfl (Or.inl rfl) (Or.inr rfl) (Or.inl rfl)

theorem laneStay_cutEntry (s : State) (n : LaneNo) (o : EntryOutcome) : LaneStay n s (s.cutEntry n o) :=
  ((Stands.start n s).cutEntry o).stayLess rfl (Or.inl rfl) (Or.inr rfl) (Or.inl rfl)

theorem laneStay_cutStep (s : State) (n : LaneNo) : LaneStay n s (s.cutStep n) :=
  (Stands.start n s).cutStep.stayLess rfl (Or.inl rfl) (Or.inl rfl) (Or.inr rfl)

theorem laneStay_discardQueue (s : State) (n : LaneNo) : LaneStay n s (s.discardQueue n) :=
  (Stands.start n s).discardQueue.stayLess rfl (Or.inr rfl) (Or.inl rfl) (Or.inl rfl)

/-- A lane whose current entry changes its cursor or its mark stays. -/
theorem laneStay_setCurrent {c : Current} (h : (s.lane n).current = some c) (d : Current) :
    LaneStay n s (s.updLane n fun r => { r with current := some d }) :=
  ((Stands.start n s).updLane (fun r => { r with current := some d }) rfl rfl).stay (Or.inl rfl)
    (fun _ ⟨_, hc, _⟩ => absurd (h.symm.trans hc) (by simp)) (fun x hx => ⟨x, hx, rfl⟩)

/-- A lane whose step in progress changes, but not its start time, stays. -/
theorem laneStay_setRun {q : StepRun} (h : (s.lane n).run = some q) (x : StepRun) (hx : x.startedAt = q.startedAt) :
    LaneStay n s (s.updLane n fun r => { r with run := some x }) :=
  ((Stands.start n s).updLane (fun r => { r with run := some x }) rfl rfl).stay (Or.inl rfl)
    (fun _ ⟨_, _, hr⟩ => absurd (h.symm.trans hr) (by simp)) (fun y hy => ⟨q, h, by cases hy; exact hx⟩)

theorem laneMove_tellState (a : LaneMove n s t) (quiet : Bool) (c : Cause) : LaneMove n s (t.tellState n quiet c) :=
  a.andReports ((Stands.start n t).tellState quiet c)

/-- A lane whose state alone changes, to one in play. -/
theorem laneMove_setInPlay (s : State) (n : LaneNo) {st : LaneState} (h : st.inPlay = true) : LaneMove n s (s.setLaneState n st) :=
  { (laneAct_setLaneState s n st).frame with
    active := fun _ h => h
    since := fun _ _ h => Or.inl h
    began := fun r hr => Or.inr ⟨r, by simpa using hr, rfl⟩
    outcome := .plays (by simpa using h) rfl }

/-- A lane whose state changes from one at rest to the other. -/
theorem laneStay_setAtRest {st : LaneState} (h : (s.lane n).state.atRest) (hst : st.atRest) : LaneStay n s (s.setLaneState n st) :=
  ((Stands.start n s).setLaneState st).stay (Or.inr ⟨h, hst⟩) (fun _ hb => hb) (fun x hx => ⟨x, hx, rfl⟩)

/-- What Table 1-4 makes PENDING is PENDING from now, or was PENDING. -/
theorem since_of_applied {now x : Nat} {named : Bool} {st : LineState} (h : st.applied now named = .pending x) : st = .pending x ∨ x = now := by
  cases st <;> cases named <;> simp_all [LineState.applied]

/-- A line that a pattern names is commanded, and one that it does not name is not. -/
theorem commanded_applied (now : Nat) (named : Bool) (st : LineState) : LineState.commanded (st.applied now named) = named := by
  cases st <;> cases named <;> rfl

theorem active_of_applyPattern {p : LineSet} {l : LineNo} (h : ((s.applyPattern n p).line l).state = .active) : (s.line l).state = .active := by
  rw [line_applyPattern] at h
  split at h
  · exact active_of_applied_active h
  · exact h

theorem since_of_applyPattern {p : LineSet} {l : LineNo} {x : Nat} (h : ((s.applyPattern n p).line l).state = .pending x) :
    (s.line l).state = .pending x ∨ x = s.now := by
  rw [line_applyPattern] at h
  split at h
  · exact since_of_applied h
  · exact Or.inl h

/-- A lane that goes to IDLE shows its rest set (R92). -/
theorem laneMove_goIdle (s : State) (n : LaneNo) : LaneMove n s (s.goIdle n) :=
  { (laneAct_goIdle s n).frame with
    active := fun _ h => active_of_applyPattern h
    since := fun _ _ h => since_of_applyPattern h
    began := fun r hr => Or.inr ⟨r, by simpa [State.goIdle] using hr, rfl⟩
    outcome := by
      refine .rests (by simp [State.goIdle, LaneState.atRest]) (fun l hl => ?_) rfl
      have ho : (s.line l).owner = some n := by rw [← (laneAct_goIdle s n).owner l]; exact hl
      have hr : ((s.goIdle n).lane n).config = (s.lane n).config := (laneAct_goIdle s n).config n
      rw [hr, State.goIdle, line_setLaneState, State.applyRest, line_applyPattern, if_pos ho]
      exact commanded_applied _ _ _ }

/-- Stage 7 (R88). -/
theorem laneMove_beginStep (s : State) (n : LaneNo) (c : Current) : LaneMove n s (s.beginStep n c) := by
  have hf := (laneAct_beginStep s n c).frame
  cases hst : s.stepAt c with
  | some st =>
    refine { hf with active := fun l h => ?_, since := fun l x h => ?_, began := fun r h => ?_, outcome := ?_ }
    · rw [line_beginStep hst, ← line_applyPattern] at h
      exact active_of_applyPattern h
    · rw [line_beginStep hst, ← line_applyPattern] at h
      exact since_of_applyPattern h
    · rw [lane_beginStep hst] at h
      cases h
      exact Or.inl rfl
    · exact .plays (by rw [lane_beginStep hst]; rfl) (faultN_beginStep hst)
  | none =>
    have hb : s.beginStep n c = s.updLane n fun r => { r with current := some c, state := .running } := by
      have hs : (s.updLane n fun r => { r with current := some c, state := .running }).stepAt c = none :=
        (stepAt_congr (fun _ => rfl) c).trans hst
      simp only [State.beginStep, hs]
    rw [hb] at hf ⊢
    exact { hf with
      active := fun _ h => h
      since := fun _ _ h => Or.inl h
      began := fun r hr => Or.inr ⟨r, by simpa using hr, rfl⟩
      outcome := .plays (by simp [LaneState.inPlay]) rfl }

/-- The head of a queue begins (R42, R73); with an empty queue the lane stays. -/
theorem laneMove_beginHead (s : State) (n : LaneNo) : LaneMove n s (s.beginHead n) := by
  cases hq : (s.lane n).queue with
  | cons e es =>
    rw [beginHead_of_queue hq]
    have hst := (Stands.start n s).updLane (fun r => { r with queue := es }) rfl rfl
    exact (hst.stay (Or.inl rfl) (fun _ ⟨he, _, _⟩ => absurd (hq.symm.trans he) (by simp)) (fun x hx => ⟨x, hx, rfl⟩)).andMoves
      (laneMove_beginStep _ n _)
  | nil =>
    have hb : s.beginHead n = s := by simp only [State.beginHead, hq]
    rw [hb]
    exact LaneMove.refl n s

/-- Stages 6 and 7 (R87, R88). -/
theorem laneMove_nextStep (s : State) (n : LaneNo) (quiet : Bool) : LaneMove n s (s.nextStep n quiet) := by
  unfold State.nextStep
  split
  · exact laneMove_beginStep s n _
  · exact laneMove_beginHead s n
  · split
    · exact laneMove_tellState (laneMove_setInPlay s n rfl) quiet _
    · exact laneMove_tellState (laneMove_goIdle s n) quiet _

/-- Stage 3 (R83). -/
theorem laneMove_stopHere (s : State) (n : LaneNo) (c : Current) (quiet : Bool) : LaneMove n s (s.stopHere n c quiet) := by
  unfold State.stopHere
  dsimp only
  split
  · exact (laneStay_endEntry s n c _ _).andMoves (laneMove_tellState (laneMove_goIdle _ n) quiet _)
  · exact (laneStay_endEntry s n c _ _).andMoves (laneMove_tellState (laneMove_goIdle _ n) quiet _)

/-- Stage 4 (R84). -/
theorem laneStay_moveCursor {c : Current} (h : (s.lane n).current = some c) : LaneStay n s (s.moveCursor n c) := by
  unfold State.moveCursor
  split
  · exact laneStay_setCurrent h _
  · exact laneStay_endEntry s n c _ _

/-- The stages of the entry to SAFE (R131). -/
theorem laneMove_safeStages (s : State) (n : LaneNo) (c : SafeCause) : LaneMove n s (s.safeStages n c) :=
  { (laneAct_safeStages s n c).frame with
    active := fun l h => by
      rw [line_safeStages] at h
      split at h
      · cases hv : (s.line l).safeLevel <;> simp [hv, SafeLevel.state] at h
      · exact h
    since := fun l x h => by
      rw [line_safeStages] at h
      split at h
      · cases hv : (s.line l).safeLevel <;> simp [hv, SafeLevel.state] at h
      · exact Or.inl h
    began := fun r h => by rw [lane_safeStages] at h; cases h
    outcome := by
      refine .holds (by rw [lane_safeStages]) (by rw [lane_safeStages]; exact ⟨rfl, rfl, rfl⟩) (fun l hl => ?_) (faultN_safeStages s n c)
      have ho : (s.line l).owner = some n := by rw [← (laneAct_safeStages s n c).owner l]; exact hl
      rw [line_safeStages, if_pos ho] }

theorem laneMove_enterSafe (s : State) (n : LaneNo) (c : SafeCause) : LaneMove n s (s.enterSafe n c) := by
  unfold State.enterSafe
  split
  · exact LaneMove.refl n s
  · exact laneMove_safeStages s n c

/-- Stages 2 to 7 (R82 to R88). -/
theorem laneMove_afterStep {c : Current} (h : (s.lane n).current = some c) (o : StepOutcome) (quiet : Bool) :
    LaneMove n s (s.afterStep n c o quiet) := by
  unfold State.afterStep
  split
  · exact laneMove_enterSafe s n _
  · split
    · exact laneMove_stopHere s n c quiet
    · split
      · exact (laneStay_moveCursor h).andMoves (laneMove_tellState (laneMove_setInPlay _ n rfl) quiet _)
      · exact (laneStay_moveCursor h).andMoves (laneMove_nextStep _ n quiet)

/-- The step boundary procedure (R80). -/
theorem laneMove_boundary (s : State) (n : LaneNo) (o : StepOutcome) (e : Nat) (quiet : Bool) : LaneMove n s (s.boundary n o e quiet) := by
  unfold State.boundary
  split
  · next c hc =>
    have h := ((Stands.start n s).reportStep c o e).dropStep
    exact ((laneStay_reportStep s n c o e).trans (laneStay_dropStep _ n)).andMoves
      (laneMove_afterStep (c := c) (by rw [h.lane]; exact hc) o quiet)
  · exact (laneStay_dropStep s n).move

/-! ### The events -/

/-- One event of lane n: a move, which a lane SAFE with nothing in it does not make. -/
structure LaneTurn (n : LaneNo) (s t : State) : Prop extends LaneMove n s t where
  held : (s.lane n).state = .safe → (s.lane n).bare → (t.lane n).state = .safe ∧ (t.lane n).bare ∧ t.faultN = s.faultN

theorem LaneTurn.refl (n : LaneNo) (s : State) : LaneTurn n s s :=
  { LaneMove.refl n s with held := fun hs hb => ⟨hs, hb, rfl⟩ }

/-- A lane that is not in SAFE. -/
theorem LaneMove.turn (a : LaneMove n s t) (h : (s.lane n).state ≠ .safe) : LaneTurn n s t :=
  { a with held := fun hs => absurd hs h }

/-- A lane with something in it. -/
theorem LaneMove.turnOfRun (a : LaneMove n s t) {q : StepRun} (h : (s.lane n).run = some q) : LaneTurn n s t :=
  { a with held := fun _ ⟨_, _, hr⟩ => absurd (h.symm.trans hr) (by simp) }

theorem LaneStay.turn (a : LaneStay n s t) : LaneTurn n s t :=
  { a.move with held := fun hs hb => ⟨(a.state.eq (by simp [LaneState.atRest, hs])).trans hs, a.bare hs hb, a.fault⟩ }

theorem laneTurn_enterSafe (s : State) (n : LaneNo) (c : SafeCause) : LaneTurn n s (s.enterSafe n c) :=
  { laneMove_enterSafe s n c with
    held := fun hs hb => by rw [enterSafe_unmoved (Or.inr hs)]; exact ⟨hs, hb, rfl⟩ }

theorem laneTurn_advanceBy (s : State) (n : LaneNo) (a : Advance) (o : StepOutcome) : LaneTurn n s (s.advanceBy n a o) := by
  unfold State.advanceBy
  split
  · next q hq =>
    split
    · exact (laneMove_boundary s n o _ false).turnOfRun hq
    · exact LaneTurn.refl n s
  · exact LaneTurn.refl n s

theorem laneTurn_edgeAt (s : State) (n : LaneNo) (e : Edge) : LaneTurn n s (s.edgeAt n e) := by
  unfold State.edgeAt
  split
  · exact laneTurn_advanceBy s n _ _
  · exact LaneTurn.refl n s

theorem laneTurn_syncLane (s : State) (n : LaneNo) : LaneTurn n s (s.syncLane n) := by
  unfold State.syncLane
  split
  · next hs _ => exact (laneMove_tellState (laneMove_beginHead s n) false _).turn (by simp [hs])
  · exact LaneTurn.refl n s

theorem laneTurn_endByTimer (s : State) (n : LaneNo) (o : StepRun → StepOutcome) : LaneTurn n s (s.endByTimer n o) := by
  unfold State.endByTimer
  split
  · next q hq => exact (laneMove_boundary s n _ _ false).turnOfRun hq
  · exact LaneTurn.refl n s

/-- Taking an event in flight is an event of the lane it is for, or the offer of a report. -/
theorem take_turn (s : State) (e : SetOff) : (∃ n, LaneTurn n s (s.take e)) ∨ ∃ r, s.take e = s.offer r := by
  cases e with
  | leaderBoundary m => exact Or.inl ⟨m, laneTurn_advanceBy s m _ _⟩
  | edge n e => exact Or.inl ⟨n, laneTurn_edgeAt s n e⟩
  | syncEdge n => exact Or.inl ⟨n, laneTurn_syncLane s n⟩
  | safe n c => exact Or.inl ⟨n, laneTurn_enterSafe s n c⟩
  | reports rs => cases rs with
    | nil => exact Or.inl ⟨0, LaneTurn.refl 0 s⟩
    | cons r _ => exact Or.inr ⟨r, rfl⟩

end Sys2Proof.Machine

/-! PROOFS. The induction of every invariant here, made once: `Kept P` lists what there is to check of P, one field for each kind of thing that a
step does, and `Kept.step` says that then every step keeps P. -/

namespace Sys2Proof.Machine

open Sys2Proof.Safety Sys2Proof.Spec

/-! ### What happens beside the lanes -/

/-- No lane, line or FAULT_N differs, and a cause of safe hold in flight goes on standing. A time that differs is not ahead of the time then;
only from pin reset or before start-up does the part come to a state before start-up; and KILL_N comes to be asserted before start-up, or
with the assertion on its way to every lane that owns lines and is not in SAFE. -/
structure Aside (s t : State) : Prop where
  lines : t.lines = s.lines := by rfl
  lanes : t.lanes = s.lanes := by rfl
  fault : t.faultN = s.faultN := by rfl
  stands : ∀ n c, SetOff.safe n c ∈ s.setOff → SetOff.safe n c ∈ t.setOff := by exact fun _ _ h => h
  now : s.now ≤ t.now := by exact le_rfl
  sending : ∀ x, t.tx.sending = some x → s.tx.sending = some x ∨ x.startedAt ≤ t.now := by exact fun _ h => Or.inl h
  starting : ∀ a, t.phase = .starting a → s.phase = .starting a ∨ a ≤ t.now := by exact fun _ h => Or.inl h
  trigger : ∀ i, (t.trigger i).since = (s.trigger i).since ∨ (t.trigger i).since ≤ t.now := by exact fun _ => Or.inl rfl
  syncSince : t.sync.since = s.sync.since ∨ t.sync.since ≤ t.now := by exact Or.inl rfl
  released : t.sync.releasedAt = s.sync.releasedAt ∨ t.sync.releasedAt ≤ t.now := by exact Or.inl rfl
  killSince : t.kill.since = s.kill.since ∨ t.kill.since ≤ t.now := by exact Or.inl rfl
  quiet : ∀ a, t.rx.quietFrom = some a → s.rx.quietFrom = some a ∨ a ≤ t.now := by exact fun _ h => Or.inl h
  started : t.phase ≠ .started → s.phase ≠ .started ∧ (s.proc = .idle → t.proc = .idle) := by exact fun h => ⟨h, fun h => h⟩
  killed : t.kill.asserted = true → s.kill.asserted = true ∨ t.phase ≠ .started
    ∨ ∀ n, (s.lane n).config.lines ≠ 0 → (s.lane n).state ≠ .safe → SetOff.safe n .kill ∈ t.setOff := by exact fun h => Or.inl h

theorem Aside.line {s t : State} (a : Aside s t) (l : LineNo) : t.line l = s.line l := by
  simp only [State.line, a.lines]

theorem Aside.lane {s t : State} (a : Aside s t) (n : LaneNo) : t.lane n = s.lane n := by
  simp only [State.lane, a.lanes]

theorem Aside.partner {s t : State} (a : Aside s t) (l : LineNo) : t.partner l = s.partner l := by
  simp only [State.partner, a.line l]

theorem aside_pending (s : State) (q : List Instr) : Aside s { s with pending := q } := {}

theorem aside_draw (s : State) : Aside s s.draw.2 := by
  unfold State.draw; split <;> exact {}

theorem aside_tick (s : State) : Aside s s.tick :=
  { now := Nat.le_succ _
    syncSince := by simp only [State.tick]; split <;> exact Or.inl rfl
    released := by simp only [State.tick]; split <;> exact Or.inl rfl
    quiet := fun a h => Or.inl (by simp only [State.tick] at h; split at h <;> exact h) }

/-- What is in flight changes, but no cause of safe hold leaves it. -/
theorem aside_setOff {s : State} {es : List SetOff} (h : ∀ n c, SetOff.safe n c ∈ s.setOff → SetOff.safe n c ∈ es) :
    Aside s { s with setOff := es } := { stands := h }

theorem aside_sets (s : State) (es : List SetOff) : Aside s (s.sets es) :=
  { stands := fun _ _ h => List.mem_append_left _ h }

/-- A message joins the outbound queue (R151). -/
theorem aside_post (s : State) (m : Message) : Aside s (s.post m) :=
  { sending := fun x h => by
      rw [sending_post] at h
      cases hs : s.tx.sending with
      | some y => exact Or.inl (by simpa [hs] using h)
      | none =>
        rw [hs] at h
        cases h
        exact Or.inr le_rfl }

theorem aside_offer (s : State) (r : Report) : Aside s (s.offer r) := by
  unfold State.offer
  split
  · exact { aside_post { s with tx := { s.tx with loss := 0 } } (.report s.tx.loss r) with }
  · exact {}

/-- The execution's answer is noted. -/
theorem aside_answered {s : State} {x y : Execution} (h : s.proc = .executing x) : Aside s { s with proc := .executing y } :=
  { started := fun hs => ⟨hs, fun hi => by rw [h] at hi; cases hi⟩ }

theorem aside_idle (s : State) : Aside s { s with proc := .idle } := { started := fun h => ⟨h, fun _ => rfl⟩ }

/-! ### What there is to check of an invariant -/

/-- What there is to check of a predicate that every step is to keep: what happens beside the lanes; an event of one lane; a cause of safe hold
that its lane takes out of what is in flight; the commands that write the line table and the records; a guard expiry; and the two
resets. -/
structure Kept (P : State → Prop) : Prop where
  aside : ∀ {s t : State}, Aside s t → P s → P t
  turn : ∀ {n : LaneNo} {s t : State}, LaneTurn n s t → P s → P t
  safeTaken : ∀ {s : State} {n : LaneNo} {c : SafeCause} {standing : List SetOff}, (∀ d ∈ s.setOff, d ≠ .safe n c → d ∈ standing) → P s →
    P (State.enterSafe { s with setOff := standing } n c)
  configLine : ∀ {s : State} {l : LineNo} (p : Polarity) (v : SafeLevel), (s.line l).owner = none → P s →
    P (s.updLine l fun r => { r with polarity := p, safeLevel := v })
  setPair : ∀ {s : State} {x y : LineNo}, x ≠ y → s.partner x = none → s.partner y = none → s.ownerQuiet x = true → s.ownerQuiet y = true →
    ¬ (s.inOwnRestSet x = true ∧ s.inOwnRestSet y = true) → P s → P (s.pairLines x y)
  clearPair : ∀ {s : State} {x y : LineNo}, s.partner x = some y → P s → P (s.unpairLines x y)
  configure : ∀ {s : State} {n : LaneNo} {raw : RawConfig} {c : LaneConfig}, s.proc ≠ .idle → configLaneCheck n raw s = .ok c → P s →
    P (s.configure n c)
  clearFault : ∀ {s : State} {n : LaneNo}, (s.lane n).state = .safe → s.kill.asserted = false → P s → P (s.clearSafe n)
  withheld : ∀ {s : State} {l p : LineNo} {n : LaneNo}, s.guardDue l = true → s.activePartner l = some p → (s.line l).owner = some n → P s →
    P ((s.updLine l fun r => { r with state := .inactive }).sets [.safe n (.interlock l p)])
  activates : ∀ {s : State} {l : LineNo}, s.guardDue l = true → s.activePartner l = none → P s →
    P (s.updLine l fun r => { r with state := .active })
  reinit : ∀ {s : State}, P s → P s.reinit
  pinReset : ∀ (now : Nat) (pending : List Instr) (choices : List Nat) (draws : Nat),
    P { State.reset with now := now, pending := pending, choices := choices, draws := draws }

namespace Kept

variable {P : State → Prop} {s t : State}

/-! ### What is in flight -/

theorem offers (k : Kept P) (rs : List Report) (hp : P s) : P (rs.foldl State.offer s) := by
  induction rs generalizing s with
  | nil => exact hp
  | cons r rs ih => exact ih (k.aside (aside_offer s r) hp)

theorem offerAll (k : Kept P) (hp : P s) : P s.offerAll := by
  refine k.offers _ (k.aside (aside_setOff fun n c h => ?_) hp)
  exact List.mem_filter.2 ⟨h, rfl⟩

/-- An event in flight is taken, and every other stands. -/
theorem take (k : Kept P) {e : SetOff} {standing : List SetOff} (h : ∀ d ∈ s.setOff, d ≠ e → d ∈ standing) (hp : P s) :
    P (State.take { s with setOff := standing } e) := by
  by_cases he : ∃ n c, e = .safe n c
  · obtain ⟨n, c, rfl⟩ := he
    exact k.safeTaken h hp
  · have hstand : P { s with setOff := standing } :=
      k.aside (aside_setOff fun n c hm => h _ hm fun hd => he ⟨n, c, hd.symm⟩) hp
    rcases take_turn { s with setOff := standing } e with ⟨n, ht⟩ | ⟨r, hr⟩
    · exact k.turn ht hstand
    · rw [hr]
      exact k.aside (aside_offer _ r) hstand

theorem takeFirst (k : Kept P) (p : SetOff → Bool) (hp : P s) : P (s.takeFirst p) := by
  rcases takeFirst_cases s p with h | ⟨e, -, -, h⟩
  · rw [h]; exact hp
  · rw [h]
    exact k.take (fun d hd hne => (List.mem_erase_of_ne hne).2 hd) hp

/-! ### The receiver and the transmitter -/

theorem handOn (k : Kept P) (f : Frame) (hp : P s) : P (s.handOn f) := by
  unfold State.handOn
  split
  · exact k.aside {} hp
  · split
    · exact k.aside (aside_post s _) hp
    · exact k.aside {} hp

theorem acceptFrame (k : Kept P) (f : Frame) (hp : P s) : P (s.acceptFrame f) := by
  have h : P { s with keepalive := s.keepalive.restart } := k.aside {} hp
  exact k.aside {} (k.handOn f h)

theorem receiveByte (k : Kept P) (b : Byte) (hp : P s) : P (s.receiveByte b) := by
  have hassemble : ∀ buffer, P (s.assemble buffer) := by
    intro buffer
    unfold State.assemble
    split
    · exact hp
    · split
      · exact k.aside {} hp
      · split
        · exact k.aside {} hp
        · split
          · exact k.acceptFrame _ hp
          · exact k.aside {} hp
  unfold State.receiveByte
  split
  · split
    · exact k.aside {} hp
    · exact hp
  · exact hassemble _

/-- A wait after a framing error that begins begins now, or ends. -/
theorem endCharacter (k : Kept P) {quiet : Option Nat} (h : ∀ a, quiet = some a → a ≤ s.now) (hp : P s) : P (s.endCharacter quiet) :=
  k.aside { quiet := fun a ha => Or.inr (h a ha) } hp

theorem waitOn (k : Kept P) {quiet : Option Nat} (h : ∀ a, quiet = some a → a ≤ s.now) (hp : P s) : P (s.waitOn quiet) :=
  k.aside { quiet := fun a ha => Or.inr (h a ha) } hp

theorem characterReceived (k : Kept P) {c : Character} (hp : P s) (h : execCharacterReceived c s = .next t) : P t := by
  have hnone : P (s.endCharacter none) := k.endCharacter (fun _ h => by cases h) hp
  unfold execCharacterReceived at h
  split at h
  · cases h; exact hp
  · by_cases hstart : s.hearsStart (if c.startBit then 0 else 1) = false
    · rw [if_pos hstart] at h
      cases h
      refine k.waitOn (fun a ha => ?_) hp
      unfold State.quietAfter at ha
      split at ha
      · cases ha
      · cases ha; exact le_rfl
    · rw [if_neg hstart] at h
      split at h
      · cases h; exact hnone
      · split at h
        · cases h
          exact k.aside {} (k.endCharacter (quiet := some s.now) (fun _ h => by cases h; exact le_rfl) hp)
        · cases h; exact k.aside {} hnone
        · cases h; exact k.receiveByte _ hnone

theorem startBitRecognized (k : Kept P) (hp : P s) (h : execStartBitRecognized s = .next t) : P t := by
  unfold execStartBitRecognized at h
  split at h
  · cases h; exact hp
  · split at h
    · cases h; exact k.waitOn (fun _ h => by cases h; exact le_rfl) hp
    · cases h; exact k.aside { quiet := fun _ h => by cases h } hp

theorem gapExpiry (k : Kept P) (hp : P s) (h : execGapExpiry s = .next t) : P t := by
  unfold execGapExpiry at h
  split at h
  · cases h; exact k.aside {} hp
  · cases h; exact hp

theorem validFrame (k : Kept P) {f : Frame} (hp : P s) (h : execValidFrame f s = .next t) : P t := by
  unfold execValidFrame at h
  split at h
  · cases h; exact hp
  · cases h; exact k.acceptFrame f (k.endCharacter (fun _ h => by cases h) hp)

theorem transmissionEnd (k : Kept P) (hp : P s) (h : execTransmissionEnd s = .next t) : P t := by
  unfold execTransmissionEnd at h
  split at h
  · cases h
    unfold State.sendNext
    split
    · next m rest _ =>
      refine k.aside { sending := fun x hx => ?_ } hp
      cases rest with
      | nil => cases hx
      | cons _ _ => cases hx; exact Or.inr le_rfl
    · exact hp
  · cases h; exact hp

/-! ### The command processor -/

theorem frameTake (k : Kept P) (hp : P s) (h : execFrameTake s = .next t) : P t := by
  unfold execFrameTake at h
  split at h
  · next hd =>
    obtain ⟨-, -, -, hs⟩ := (takeDue_iff s).1 hd
    split at h
    · next f rest _ =>
      cases h
      have hdraws : P s.draw.2.draw.2 := k.aside (aside_draw _) (k.aside (aside_draw s) hp)
      exact k.aside { quiet := fun a ha => Or.inl (by simpa using ha), started := fun hn => absurd (by simp [hs]) hn } hdraws
    · cases h; exact hp
  · cases h; exact hp

theorem commandCompletion (k : Kept P) (hp : P s) (h : execCommandCompletion s = .next t) : P t := by
  unfold execCommandCompletion at h
  split at h
  · split at h
    · cases h
      exact k.aside (aside_post _ _) (k.aside (aside_idle _) (k.offerAll hp))
    · cases h; exact hp
  · cases h; exact hp

/-- The event of a command keeps what its effect keeps, when the effect leaves the execution to the Command Processor. -/
theorem command (k : Kept P) {c : Instr} {effect : State → State × Answer} (he : s.proc ≠ .idle → P (effect s).1)
    (hx : (effect s).1.proc = s.proc) (hp : P s) (h : s.command c effect = .next t) : P t := by
  unfold State.command at h
  split at h
  · next x hproc =>
    split at h
    · cases h
      exact k.aside (aside_answered (hx.trans hproc)) (he (by simp [hproc]))
    · cases h; exact hp
  · cases h; exact hp

end Kept

end Sys2Proof.Machine

/-! PROOFS. The rows of the opcode table for the induction of an invariant: each is one of the things that `Kept` lists, or several in a row. -/

namespace Sys2Proof.Machine

open Sys2Proof.Safety Sys2Proof.Spec

/-! ### The commands of one lane -/

variable {n : LaneNo} {s t u : State}

/-- A lane set to a state in play moves on. -/
theorem LaneMove.ofInPlay {st : LaneState} (hst : st.inPlay = true) (b : LaneMove n (s.setLaneState n st) u) : LaneMove n s u :=
  { (laneAct_setLaneState s n st).frame.trans b.toLaneFrame with
    active := b.active
    since := b.since
    began := fun r hr => by simpa using b.began r hr
    outcome := by
      cases b.outcome with
      | stays h _ _ fault =>
        rw [lane_setLaneState_self] at h
        exact .plays (by rw [h.eq (LaneState.not_atRest_of_inPlay hst)]; exact hst) fault
      | plays h fault => exact .plays h fault
      | rests h lines fault => exact .rests h lines fault
      | holds h bare lines fault => exact .holds h bare lines fault }

theorem laneTurn_pause (n : LaneNo) (s : State) : LaneTurn n s (pauseEffect n s).1 := by
  unfold pauseEffect
  split
  · next h => exact (laneMove_setInPlay s n rfl).turn (by simp [h])
  · next h => exact (laneMove_setInPlay s n rfl).turn (by simp [h])
  all_goals exact LaneTurn.refl n s

theorem laneTurn_resume (n : LaneNo) (s : State) : LaneTurn n s (resumeEffect n s).1 := by
  unfold resumeEffect
  split
  · next h => exact (laneMove_setInPlay s n rfl).turn (by simp [h])
  · next h => exact (LaneMove.ofInPlay rfl (laneMove_nextStep _ n true)).turn (by simp [h])
  all_goals exact LaneTurn.refl n s

theorem laneMove_stopBoundary (s : State) (n : LaneNo) : LaneMove n s (s.stopBoundary n) := by
  unfold State.stopBoundary
  split
  · exact laneMove_setInPlay s n rfl
  · exact laneMove_setInPlay s n rfl
  · exact (laneStay_cutEntry s n .stopped).andMoves (laneMove_goIdle _ n)
  · exact laneMove_goIdle s n
  · next h => exact (laneStay_setAtRest (Or.inr h) (Or.inl rfl)).move
  all_goals exact LaneMove.refl n s

theorem laneMove_stopNow (s : State) (n : LaneNo) : LaneMove n s (s.stopNow n) := by
  unfold State.stopNow
  split
  · next h => exact (laneStay_setAtRest (Or.inr h) (Or.inl rfl)).move
  · exact ((laneStay_cutStep s n).trans (laneStay_cutEntry _ n .cut)).andMoves (laneMove_goIdle _ n)

theorem laneTurn_stop (n : LaneNo) (mode : Byte) (s : State) : LaneTurn n s (stopEffect n mode s).1 := by
  unfold stopEffect
  split
  · exact LaneTurn.refl n s
  · split
    · exact LaneTurn.refl n s
    · next m _ hs =>
      have hne : (s.lane n).state ≠ .safe := fun h => hs (Or.inr (Or.inr h))
      cases m with
      | boundary => exact ((laneStay_discardQueue s n).andMoves (laneMove_stopBoundary _ n)).turn hne
      | now => exact ((laneStay_discardQueue s n).andMoves (laneMove_stopNow _ n)).turn hne

theorem laneTurn_break (n : LaneNo) (s : State) : LaneTurn n s (breakEffect n s).1 := by
  unfold breakEffect
  split
  · exact LaneTurn.refl n s
  · next c hc =>
    split
    · exact LaneTurn.refl n s
    · exact (laneStay_setCurrent hc _).turn

/-- The step that an accepted AMEND changes is the one in progress (R120). -/
theorem run_of_amendCheck {serial d : Half} {r : StepRun} (h : amendCheck n serial d s = .ok r) : (s.lane n).run = some r := by
  unfold amendCheck at h
  repeat' split at h
  all_goals cases h
  assumption

theorem laneTurn_amend (n : LaneNo) (serial d : Half) (s : State) : LaneTurn n s (amendEffect n serial d s).1 := by
  unfold amendEffect
  split
  · exact LaneTurn.refl n s
  · next r hr =>
    split
    · exact (laneMove_boundary s n .amended _ true).turnOfRun (run_of_amendCheck hr)
    · exact (laneStay_setRun (run_of_amendCheck hr) { r with step := { r.step with duration := d.toNat }, amended := true } rfl).turn

theorem laneTurn_flush (n : LaneNo) (s : State) : LaneTurn n s (flushEffect n s).1 := by
  unfold flushEffect
  split
  · exact LaneTurn.refl n s
  · dsimp only
    have hd := laneStay_discardQueue s n
    split
    · next h =>
      have hl := ((Stands.start n s).discardQueue).lane
      exact (hd.trans (laneStay_setAtRest (Or.inr (by rw [hl]; exact h)) (Or.inl rfl))).turn
    · exact hd.turn

/-- Accepted entries join a queue of a lane that takes entries, and the lane stays (R49). -/
theorem laneStay_acceptEntries {bodies : List EntryBody} (h : (s.lane n).state ≠ .safe) : LaneStay n s (s.acceptEntries n bodies) := by
  have hraise : ∀ (bs : List EntryBody) (v : State), LaneAct n v (bs.foldl State.raiseUse v)
      ∧ (bs.foldl State.raiseUse v).lane n = v.lane n ∧ LinesKept v (bs.foldl State.raiseUse v)
      ∧ (bs.foldl State.raiseUse v).faultN = v.faultN := by
    intro bs
    induction bs with
    | nil => exact fun v => ⟨LaneAct.refl n v, rfl, fun _ => rfl, rfl⟩
    | cons b bs ih =>
      intro v
      obtain ⟨ha, hl, hk, hf⟩ := ih (v.raiseUse b)
      have hb : (v.raiseUse b).lane n = v.lane n ∧ LinesKept v (v.raiseUse b) ∧ (v.raiseUse b).faultN = v.faultN := by
        cases b <;> exact ⟨rfl, fun _ => rfl, rfl⟩
      exact ⟨(laneAct_raiseUse v n b).trans ha, hl.trans hb.1, fun l => (hk l).trans (hb.2.1 l), hf.trans hb.2.2⟩
  obtain ⟨ha, hl, hk, hf⟩ := hraise bodies s
  have hn : (s.acceptEntries n bodies).lane n = { s.lane n with
      queue := (s.lane n).queue ++ numberEntries (s.lane n).nextSerial bodies,
      nextSerial := (s.lane n).nextSerial + BitVec.ofNat 16 bodies.length } := by
    rw [State.acceptEntries, lane_updLane_self, hl]
  have hm : ∀ m, m ≠ n → (s.acceptEntries n bodies).lane m = s.lane m := fun m hne => by
    rw [State.acceptEntries, lane_updLane_ne _ _ _ _ hne, ha.lane m hne]
  exact
    { untouched := ha.untouched.trans ⟨rfl, rfl, rfl, rfl, rfl, rfl, rfl, rfl, rfl, rfl, rfl, rfl, rfl⟩
      config := fun m => by
        by_cases hne : m = n
        · subst hne; rw [hn]
        · rw [hm m hne]
      lane := hm
      line := fun l => ha.line l
      lineElse := fun l hne => ha.lineElse l hne
      stands := fun e he => ha.stands he
      state := Or.inl (by rw [hn])
      bare := fun hs => absurd hs h
      runs := fun r hr => ⟨r, by rw [hn] at hr; exact hr, rfl⟩
      lines := hk
      fault := hf }

theorem laneTurn_enqueue (n : LaneNo) (entries : List RawEntry) (s : State) : LaneTurn n s (enqueueEffect n entries s).1 := by
  unfold enqueueEffect
  split
  · exact LaneTurn.refl n s
  · next bodies hb =>
    have hne : (s.lane n).state ≠ .safe := by
      intro hs
      simp [enqueueCheck, hs, LaneState.takesEntries] at hb
    refine ((laneStay_acceptEntries (bodies := bodies) hne).andMoves ?_).turn hne
    dsimp only
    unfold State.beginIfStarved
    split
    · exact laneMove_nextStep _ n true
    · exact LaneMove.refl n _

theorem laneTurn_blankingEnd (n : LaneNo) (s : State) :
    LaneTurn n s (s.updLane n fun x => { x with run := x.run.map fun r => { r with pastBlanking := true } }) := by
  refine (((Stands.start n s).updLane (fun x => { x with run := x.run.map fun r => { r with pastBlanking := true } }) rfl rfl).stay
    (Or.inl rfl) (fun _ ⟨hq, hc, hr⟩ => ⟨hq, hc, by simp [hr]⟩) (fun x hx => ?_)).turn
  obtain ⟨q, hq, rfl⟩ := Option.map_eq_some_iff.1 hx
  exact ⟨q, hq, rfl⟩

/-! ### The library, and what stands beside the lanes -/

/-- A command whose effect is beside the lanes, and leaves the execution to the Command Processor. -/
def Beside (s : State) (effect : State → State × Answer) : Prop := Aside s (effect s).1 ∧ (effect s).1.proc = s.proc

/-- A command of the sequence library changes one slot at most (R58, R60, R62). -/
theorem beside_of_slots {s : State} {effect : State → State × Answer}
    (h : (effect s).1 = s ∨ ∃ i f, (effect s).1 = s.updSlot i f) : Beside s effect := by
  unfold Beside
  obtain h | ⟨i, f, h⟩ := h
  · rw [h]; exact ⟨{}, rfl⟩
  · rw [h]; exact ⟨{}, rfl⟩

theorem beside_openSeq (id length : Byte) (s : State) : Beside s (openSeqEffect id length) := by
  refine beside_of_slots ?_
  unfold openSeqEffect
  split
  · exact Or.inl rfl
  · split
    · exact Or.inl rfl
    · split
      · exact Or.inl rfl
      · split
        · exact Or.inl rfl
        · exact Or.inr ⟨_, fun x => { x with state := .opened, declared := some length.toNat, steps := [] }, rfl⟩

theorem beside_appendSeq (id offset : Byte) (raw : List RawStep) (s : State) : Beside s (appendSeqEffect id offset raw) := by
  refine beside_of_slots ?_
  unfold appendSeqEffect
  split
  · exact Or.inl rfl
  · dsimp only
    split
    · exact Or.inl rfl
    · exact Or.inl rfl
    · split
      · exact Or.inl rfl
      · split
        · exact Or.inl rfl
        · split
          · exact Or.inl rfl
          · next steps _ => exact Or.inr ⟨_, fun y => y.append steps, rfl⟩

theorem beside_deleteSeq (id : Byte) (s : State) : Beside s (deleteSeqEffect id) := by
  refine beside_of_slots ?_
  unfold deleteSeqEffect
  split
  · exact Or.inl rfl
  · split
    · exact Or.inl rfl
    · split
      · exact Or.inl rfl
      · exact Or.inr ⟨_, fun _ => Slot.reset, rfl⟩

theorem beside_getStatus (scope arg : Byte) (s : State) : Beside s (getStatusEffect scope arg) := by
  unfold Beside getStatusEffect
  split
  · unfold State.clearedBy
    split <;> exact ⟨{}, rfl⟩
  · exact ⟨{}, rfl⟩

theorem beside_setLink (rate parity : Byte) (window : Half) (s : State) : Beside s (setLinkEffect rate parity window) := by
  unfold Beside setLinkEffect
  split
  · split <;> exact ⟨{}, rfl⟩
  · exact ⟨{}, rfl⟩

theorem beside_pulseSync (s : State) : Beside s pulseSyncEffect := by
  unfold Beside pulseSyncEffect
  split <;> exact ⟨{}, rfl⟩

/-- A cause of safe hold that goes to the lanes goes to each that owns lines and is not in SAFE (R136, R138). -/
theorem holdLanes_reaches {s : State} {k : NoticeKind} {c : SafeCause} {n : LaneNo} (hl : (s.lane n).config.lines ≠ 0)
    (hs : (s.lane n).state ≠ .safe) : SetOff.safe n c ∈ (s.holdLanes k c).setOff := by
  have ht : n ∈ s.safeTargets := List.mem_filter.2 ⟨List.mem_finRange n, by simpa [hs] using hl⟩
  exact List.mem_append_right _ (List.mem_cons_of_mem _ (List.mem_map.2 ⟨n, ht, rfl⟩))

/-- KILL_N becomes asserted: after start-up with the assertion on its way to its lanes (R135, R136). -/
theorem aside_kill (s : State) (kill : KillInput) (hs : kill.since = s.now) :
    Aside s (if ({ s with kill := kill } : State).phase = .started then State.holdLanes { s with kill := kill } .killAsserted .kill
      else { s with kill := kill }) := by
  split
  · exact
      { stands := fun _ _ h => List.mem_append_left _ h
        killSince := Or.inr hs.le
        killed := fun _ => Or.inr (Or.inr fun _ hl hn => holdLanes_reaches (s := { s with kill := kill }) hl hn) }
  · next hp =>
    exact { killSince := Or.inr hs.le, killed := fun _ => Or.inr (Or.inl hp) }

theorem aside_setTrigger (s : State) (i : TrigNo) (v : TriggerFilter) (h : v.since = s.now) : Aside s (s.setTrigger i v) :=
  { trigger := fun j => by
      by_cases hj : j = i
      · subst hj
        rw [trigger_setTrigger_self]
        exact Or.inr h.le
      · rw [trigger_setTrigger_ne _ _ _ _ hj]
        exact Or.inl rfl }

theorem aside_adopt (s : State) (input : FilteredInput) (level : Level) : Aside s (s.adopt input level) := by
  cases input with
  | trigger i =>
    simp only [State.adopt]
    split
    · exact {}
    · exact aside_setTrigger s i _ rfl
  | syncN =>
    simp only [State.adopt]
    split
    · exact {}
    · exact { syncSince := Or.inr le_rfl }
  | killN =>
    simp only [State.adopt]
    split
    · exact {}
    · cases level with
      | low => simpa using aside_kill s ⟨true, true, s.now⟩ rfl
      | high => exact { killSince := Or.inr le_rfl, killed := fun h => by simp at h }

/-! ### Several lanes in one event -/

/-- What taking an event in flight leaves to the Command Processor. -/
theorem proc_takeFirst (s : State) (p : SetOff → Bool) : (s.takeFirst p).proc = s.proc := by
  rcases takeFirst_cases s p with h | ⟨e, -, -, h⟩
  · rw [h]
  · rw [h]
    rcases take_turn { s with setOff := s.setOff.erase e } e with ⟨n, ht⟩ | ⟨r, hr⟩
    · exact ht.untouched.proc
    · rw [hr, offer_proc]

theorem proc_configLaneEffect (n : LaneNo) (raw : RawConfig) (s : State) : (configLaneEffect n raw s).1.proc = s.proc := by
  rw [← proc_takeFirst s (SetOff.holds n)]
  unfold configLaneEffect configureEffect State.configure
  split
  · rfl
  · dsimp only
    split <;> rfl

theorem setOff_enterSafe (s : State) (n : LaneNo) (c : SafeCause) : ∃ rs, (s.enterSafe n c).setOff = s.setOff ++ sent rs := by
  unfold State.enterSafe
  split
  · exact ⟨[], by simp [sent]⟩
  · exact ⟨_, setOff_safeStages s n c⟩

theorem state_beginStep (s : State) (n : LaneNo) (c : Current) : ((s.beginStep n c).lane n).state = .running := by
  cases hst : s.stepAt c with
  | some st => rw [lane_beginStep hst]
  | none =>
    have hs : (s.updLane n fun r => { r with current := some c, state := .running }).stepAt c = none :=
      (stepAt_congr (fun _ => rfl) c).trans hst
    simp [State.beginStep, hs]

/-- A lane that begins its queue head is not in SAFE if it was not. -/
theorem beginHead_ne_safe {m : LaneNo} (h : (s.lane m).state ≠ .safe) : ((s.beginHead n).lane m).state ≠ .safe := by
  by_cases hm : m = n
  · subst hm
    cases hq : (s.lane m).queue with
    | cons e es => rw [beginHead_of_queue hq, state_beginStep]; simp
    | nil => simpa [State.beginHead, hq] using h
  · rw [(laneAct_beginHead s n).lane m hm]; exact h

/-- The lanes of a START that passes its checks are IDLE (R72). -/
theorem idle_of_startFailure {ns : List LaneNo} (h : s.startFailure ns = none) : ∀ n ∈ ns, (s.lane n).state = .idle := by
  induction ns with
  | nil => simp
  | cons n ns ih =>
    unfold State.startFailure at h
    split at h
    · cases h
    · next hn =>
      split at h
      · cases h
      · intro m hm
        rcases List.mem_cons.1 hm with rfl | hm
        · exact not_not.1 hn
        · exact ih h m hm

namespace Kept

variable {P : State → Prop}

theorem beginAll (k : Kept P) {ns : List LaneNo} (h : ∀ n ∈ ns, (s.lane n).state ≠ .safe) (hp : P s) :
    P (ns.foldl State.beginHead s) ∧ (ns.foldl State.beginHead s).proc = s.proc := by
  induction ns generalizing s with
  | nil => exact ⟨hp, rfl⟩
  | cons n ns ih =>
    have ht := (laneMove_beginHead s n).turn (h n List.mem_cons_self)
    obtain ⟨hk, hx⟩ := ih (fun m hm => beginHead_ne_safe (h m (List.mem_cons_of_mem n hm))) (k.turn ht hp)
    exact ⟨hk, hx.trans ht.untouched.proc⟩

theorem armAll (k : Kept P) {ns : List LaneNo} (h : ∀ n ∈ ns, (s.lane n).state.atRest) (hp : P s) :
    P (ns.foldl (fun t n => t.setLaneState n .armed) s) ∧ (ns.foldl (fun t n => t.setLaneState n .armed) s).proc = s.proc := by
  induction ns generalizing s with
  | nil => exact ⟨hp, rfl⟩
  | cons n ns ih =>
    refine ih (fun m hm => ?_) (k.turn (laneStay_setAtRest (h n List.mem_cons_self) (Or.inr rfl)).turn hp)
    by_cases hmn : m = n
    · subst hmn
      rw [lane_setLaneState_self]
      exact Or.inr rfl
    · rw [lane_setLaneState_ne _ _ _ _ hmn]
      exact h m (List.mem_cons_of_mem n hm)

theorem start (k : Kept P) (lanes : LaneSet) (mode : Byte) (hp : P s) :
    P (startEffect lanes mode s).1 ∧ (startEffect lanes mode s).1.proc = s.proc := by
  have hfirst : ∀ (ns : List LaneNo) (v : State), P v → P (ns.foldl (fun t n => t.takeFirst (SetOff.blocks n)) v)
      ∧ (ns.foldl (fun t n => t.takeFirst (SetOff.blocks n)) v).proc = v.proc := by
    intro ns
    induction ns with
    | nil => exact fun v hv => ⟨hv, rfl⟩
    | cons n ns ih =>
      intro v hv
      obtain ⟨hk, hx⟩ := ih _ (k.takeFirst (SetOff.blocks n) hv)
      exact ⟨hk, hx.trans (proc_takeFirst v _)⟩
  obtain ⟨hv, hx⟩ := hfirst (lanesOf lanes) s hp
  unfold startEffect startLanesEffect
  split
  · exact ⟨hv, hx⟩
  · exact ⟨hv, hx⟩
  · split
    · exact ⟨hv, hx⟩
    · next m _ _ _ _ _ hf =>
      have hidle := idle_of_startFailure hf
      cases m with
      | now =>
        obtain ⟨hk, hy⟩ := k.beginAll (fun n hn => by simp [hidle n hn]) hv
        exact ⟨hk, hy.trans hx⟩
      | onSync =>
        obtain ⟨hk, hy⟩ := k.armAll (fun n hn => Or.inl (hidle n hn)) hv
        exact ⟨hk, hy.trans hx⟩

theorem abort (k : Kept P) (lanes : LaneSet) (hp : P s) : P (abortEffect lanes s).1 ∧ (abortEffect lanes s).1.proc = s.proc := by
  have hall : ∀ (ns : List LaneNo) (v : State), P v → P (ns.foldl (fun t n => t.enterSafe n .abort) v)
      ∧ (ns.foldl (fun t n => t.enterSafe n .abort) v).proc = v.proc
      ∧ ∀ m c, SetOff.safe m c ∈ (ns.foldl (fun t n => t.enterSafe n .abort) v).setOff → SetOff.safe m c ∈ v.setOff := by
    intro ns
    induction ns with
    | nil => exact fun v hv => ⟨hv, rfl, fun _ _ h => h⟩
    | cons n ns ih =>
      intro v hv
      have ht := laneTurn_enterSafe v n .abort
      obtain ⟨hk, hx, hs⟩ := ih _ (k.turn ht hv)
      refine ⟨hk, hx.trans ht.untouched.proc, fun m c hm => ?_⟩
      obtain ⟨rs, hrs⟩ := setOff_enterSafe v n .abort
      simpa [hrs, sent] using hs m c hm
  unfold abortEffect
  split
  · exact ⟨hp, rfl⟩
  · obtain ⟨hk, hx, hs⟩ := hall (s.abortTargets lanes) s hp
    unfold State.joinReports
    dsimp only
    split
    · exact ⟨k.aside (aside_setOff hs) hk, hx⟩
    · exact ⟨k.aside (aside_setOff fun m c hm => List.mem_append_left _ (hs m c hm)) hk, hx⟩

/-! ### Every row -/

theorem commandTurn (k : Kept P) {c : Instr} {effect : State → State × Answer} (ht : LaneTurn n s (effect s).1) (hp : P s)
    (h : s.command c effect = .next t) : P t :=
  k.command (fun _ => k.turn ht hp) ht.untouched.proc hp h

theorem commandBeside (k : Kept P) {c : Instr} {effect : State → State × Answer} (ha : Beside s effect) (hp : P s)
    (h : s.command c effect = .next t) : P t :=
  k.command (fun _ => k.aside ha.1 hp) ha.2 hp h

theorem configLineEffect (k : Kept P) (line polarity safeLevel : Byte) (hp : P s) :
    P (Machine.configLineEffect line polarity safeLevel s).1 ∧ (Machine.configLineEffect line polarity safeLevel s).1.proc = s.proc := by
  unfold Machine.configLineEffect
  split
  · split
    · exact ⟨hp, rfl⟩
    · next h => exact ⟨k.configLine _ _ (by simpa using h) hp, rfl⟩
  · exact ⟨hp, rfl⟩

theorem setPairEffect (k : Kept P) (a b : Byte) (hp : P s) :
    P (Machine.setPairEffect a b s).1 ∧ (Machine.setPairEffect a b s).1.proc = s.proc := by
  unfold Machine.setPairEffect
  split
  · split
    · exact ⟨hp, rfl⟩
    · next hxy =>
      split
      · exact ⟨hp, rfl⟩
      · next hpart =>
        split
        · exact ⟨hp, rfl⟩
        · next hquiet =>
          split
          · exact ⟨hp, rfl⟩
          · next hrest =>
            simp only [not_or, Bool.not_eq_true, Option.isSome_eq_false_iff, Option.isNone_iff_eq_none, Bool.not_eq_false]
              at hpart hquiet
            exact ⟨k.setPair hxy hpart.1 hpart.2 hquiet.1 hquiet.2 hrest hp, rfl⟩
  · exact ⟨hp, rfl⟩

theorem clearPairEffect (k : Kept P) (a : Byte) (hp : P s) :
    P (Machine.clearPairEffect a s).1 ∧ (Machine.clearPairEffect a s).1.proc = s.proc := by
  unfold Machine.clearPairEffect
  split
  · split
    · next hxy =>
      split
      · exact ⟨hp, rfl⟩
      · exact ⟨k.clearPair hxy hp, rfl⟩
    · exact ⟨hp, rfl⟩
  · exact ⟨hp, rfl⟩

theorem configLaneEffect (k : Kept P) (n : LaneNo) (raw : RawConfig) (hr : s.proc ≠ .idle) (hp : P s) :
    P (Machine.configLaneEffect n raw s).1 := by
  have hv := k.takeFirst (SetOff.holds n) hp
  unfold Machine.configLaneEffect configureEffect
  split
  · exact hv
  · next c hc => exact k.configure (by rw [proc_takeFirst]; exact hr) hc hv

theorem clearFaultEffect (k : Kept P) (n : LaneNo) (hp : P s) :
    P (Machine.clearFaultEffect n s).1 ∧ (Machine.clearFaultEffect n s).1.proc = s.proc := by
  unfold Machine.clearFaultEffect
  split
  · exact ⟨hp, rfl⟩
  · next hs =>
    split
    · exact ⟨hp, rfl⟩
    · next hk => exact ⟨k.clearFault (not_not.1 hs) (by simpa using hk) hp, rfl⟩

theorem reinitEffect (k : Kept P) (hp : P s) : P (Machine.reinitEffect s).1 ∧ (Machine.reinitEffect s).1.proc = s.proc := by
  refine ⟨k.reinit (k.offerAll hp), ?_⟩
  change s.offerAll.proc = s.proc
  rw [offerAll_eq]

theorem guardExpiry (k : Kept P) {l : LineNo} (hp : P s) (h : execGuardExpiry l s = .next t) : P t := by
  unfold execGuardExpiry at h
  split at h
  · next hd =>
    obtain ⟨_, n, -, ho, -⟩ := (guardDue_iff s l).1 hd
    rw [ho] at h
    cases hpart : s.activePartner l with
    | some p =>
      rw [hpart] at h
      cases h
      exact k.withheld hd hpart ho hp
    | none =>
      rw [hpart] at h
      cases h
      exact k.activates hd hpart hp
  · cases h; exact hp

theorem resetRelease (k : Kept P) {straps : BitVec 2} (hp : P s) (h : execResetRelease straps s = .next t) : P t := by
  unfold execResetRelease at h
  split at h
  · next hh =>
    have hheld := (isHeld_iff s).1 hh
    cases h
    refine k.aside (s := s)
      { starting := fun a ha => ?_
        trigger := fun i => ?_
        syncSince := Or.inr le_rfl
        killSince := Or.inr le_rfl
        started := fun _ => ⟨by simp [hheld], fun h => h⟩ } hp
    · cases ha; exact Or.inr le_rfl
    · exact Or.inr (by simp)
  · cases h; exact hp

theorem startUpEvent (k : Kept P) (hp : P s) (h : execStartUpEvent s = .next t) : P t := by
  unfold execStartUpEvent at h
  split at h
  · cases h
    have h1 := k.aside (aside_offer s (.notice .resetDone)) hp
    refine k.aside (s := if (s.offer (.notice .resetDone)).kill.asserted then (s.offer (.notice .resetDone)).offer (.notice .killAsserted)
      else s.offer (.notice .resetDone)) { starting := fun _ h => (by cases h), started := fun h => absurd rfl h } ?_
    split
    · exact k.aside (aside_offer _ _) h1
    · exact h1
  · cases h; exact hp

/-- The inputs and the sync line. -/
theorem inputs (k : Kept P) (hp : P s) : (∀ i e, execTriggerEdge i e s = .next t → P t) ∧ (execSyncEdge s = .next t → P t)
    ∧ (execSyncLowToHigh s = .next t → P t) ∧ (execSyncPulseExpiry s = .next t → P t)
    ∧ ∀ input level, execFilterLevelAdopted input level s = .next t → P t := by
  refine ⟨fun i e h => ?_, fun h => ?_, fun h => ?_, fun h => ?_, fun input level h => ?_⟩
  · unfold execTriggerEdge at h
    split at h
    · cases h; exact hp
    · cases h
      exact k.aside (aside_sets _ _) (k.aside (aside_setTrigger s i ⟨Edge.after e, true, s.now⟩ rfl) hp)
  · unfold execSyncEdge at h
    split at h
    · cases h; exact hp
    · cases h
      have h1 : P { s with sync := { s.sync with level := .low, since := s.now } } := k.aside { syncSince := Or.inr le_rfl } hp
      exact k.aside (aside_sets _ _) h1
  · unfold execSyncLowToHigh at h
    split at h
    · cases h; exact hp
    · cases h; exact k.aside { syncSince := Or.inr le_rfl } hp
  · unfold execSyncPulseExpiry at h
    split at h
    · next hd =>
      cases h
      exact k.aside { syncSince := by simp [SyncUnit.release, hd], released := Or.inr (by simp [SyncUnit.release, hd]) } hp
    · cases h; exact hp
  · unfold execFilterLevelAdopted at h
    split at h
    · cases h; exact hp
    · cases h; exact k.aside (aside_adopt s input level) hp

/-- KILL_N and the keepalive. -/
theorem causes (k : Kept P) (hp : P s) : (execKillAssertion s = .next t → P t) ∧ (execKillRelease s = .next t → P t)
    ∧ (execKeepaliveExpiry s = .next t → P t) := by
  refine ⟨fun h => ?_, fun h => ?_, fun h => ?_⟩
  · unfold execKillAssertion at h
    split at h
    · cases h; exact hp
    · cases h
      exact k.aside (aside_kill s { s.kill with asserted := true, since := s.now } rfl) hp
  · unfold execKillRelease at h
    split at h
    · cases h; exact hp
    · cases h
      have h1 : P { s with kill := { s.kill with asserted := false, since := s.now } } :=
        k.aside { killSince := Or.inr le_rfl, killed := fun h => by cases h } hp
      dsimp only
      split
      · exact k.aside (aside_sets _ _) h1
      · exact h1
  · unfold execKeepaliveExpiry at h
    split at h
    · cases h
      have h1 : P { s with keepalive := { s.keepalive with latch := true } } := k.aside {} hp
      exact k.aside (aside_sets _ _) h1
    · cases h; exact hp

/-- The timers of a lane. -/
theorem timers (k : Kept P) (hp : P s) (n : LaneNo) : (execStepEndTimer n s = .next t → P t) ∧ (execBlankingEnd n s = .next t → P t)
    ∧ (execStepTimeout n s = .next t → P t) := by
  refine ⟨fun h => ?_, fun h => ?_, fun h => ?_⟩
  · unfold execStepEndTimer at h
    split at h
    · cases h; exact k.turn (laneTurn_endByTimer s n _) hp
    · cases h; exact hp
  · unfold execBlankingEnd at h
    split at h
    · cases h; exact k.turn (laneTurn_blankingEnd n s) hp
    · cases h; exact hp
  · unfold execStepTimeout at h
    split at h
    · cases h; exact k.turn (laneTurn_endByTimer s n _) hp
    · cases h; exact hp

/-- Every row of the opcode table keeps it. -/
theorem exec (k : Kept P) {i : Instr} (hp : P s) (h : Machine.exec i s = .next t) : P t := by
  cases i with
  | identify => exact k.command (effect := identifyEffect) (fun _ => hp) rfl hp h
  | ping => exact k.command (effect := pingEffect) (fun _ => hp) rfl hp h
  | getStatus scope arg => exact k.commandBeside (beside_getStatus scope arg s) hp h
  | setLink rate parity window => exact k.commandBeside (beside_setLink rate parity window s) hp h
  | reinit => exact k.command (fun _ => (k.reinitEffect hp).1) (k.reinitEffect hp).2 hp h
  | configLine line polarity safeLevel =>
    obtain ⟨he, hx⟩ := k.configLineEffect line polarity safeLevel hp
    exact k.command (fun _ => he) hx hp h
  | setPair a b =>
    obtain ⟨he, hx⟩ := k.setPairEffect a b hp
    exact k.command (fun _ => he) hx hp h
  | clearPair a =>
    obtain ⟨he, hx⟩ := k.clearPairEffect a hp
    exact k.command (fun _ => he) hx hp h
  | configLane n raw =>
    exact k.command (fun hr => k.configLaneEffect n raw hr hp) (proc_configLaneEffect n raw s) hp h
  | enqueue n entries => exact k.commandTurn (laneTurn_enqueue n entries s) hp h
  | start lanes mode =>
    obtain ⟨he, hx⟩ := k.start lanes mode hp
    exact k.command (fun _ => he) hx hp h
  | openSeq id length => exact k.commandBeside (beside_openSeq id length s) hp h
  | appendSeq id offset steps => exact k.commandBeside (beside_appendSeq id offset steps s) hp h
  | deleteSeq id => exact k.commandBeside (beside_deleteSeq id s) hp h
  | pulseSync => exact k.commandBeside (beside_pulseSync s) hp h
  | pause n => exact k.commandTurn (laneTurn_pause n s) hp h
  | resume n => exact k.commandTurn (laneTurn_resume n s) hp h
  | stop n mode => exact k.commandTurn (laneTurn_stop n mode s) hp h
  | breakPass n => exact k.commandTurn (laneTurn_break n s) hp h
  | amend n serial d => exact k.commandTurn (laneTurn_amend n serial d s) hp h
  | flush n => exact k.commandTurn (laneTurn_flush n s) hp h
  | abort lanes =>
    obtain ⟨he, hx⟩ := k.abort lanes hp
    exact k.command (fun _ => he) hx hp h
  | clearFault n =>
    obtain ⟨he, hx⟩ := k.clearFaultEffect n hp
    exact k.command (fun _ => he) hx hp h
  | pinReset => cases h; exact k.pinReset _ _ _ _
  | resetRelease straps => exact k.resetRelease hp h
  | startUpEvent => exact k.startUpEvent hp h
  | characterReceived c => exact k.characterReceived hp h
  | gapExpiry => exact k.gapExpiry hp h
  | validFrame f => exact k.validFrame hp h
  | frameTake => exact k.frameTake hp h
  | commandCompletion => exact k.commandCompletion hp h
  | transmissionEnd => exact k.transmissionEnd hp h
  | keepaliveExpiry => exact (k.causes hp).2.2 h
  | killAssertion => exact (k.causes hp).1 h
  | killRelease => exact (k.causes hp).2.1 h
  | triggerEdge i e => exact (k.inputs hp).1 i e h
  | syncEdge => exact (k.inputs hp).2.1 h
  | syncPulseExpiry => exact (k.inputs hp).2.2.2.1 h
  | stepEndTimer n => exact (k.timers hp n).1 h
  | blankingEnd n => exact (k.timers hp n).2.1 h
  | stepTimeout n => exact (k.timers hp n).2.2 h
  | guardExpiry l => exact k.guardExpiry hp h
  | startBitRecognized => exact k.startBitRecognized hp h
  | syncLowToHigh => exact (k.inputs hp).2.2.1 h
  | filterLevelAdopted input level => exact (k.inputs hp).2.2.2.2 input level h

/-- Every step keeps it. -/
theorem step (k : Kept P) (hp : P s) (h : Machine.step s = .next t) : P t := by
  unfold Machine.step at h
  split at h
  · exact k.exec (k.aside (aside_pending s _) hp) h
  · have hdraw : ∀ {w : State}, w = s ∨ w = s.draw.2 → P w := by
      rintro w (rfl | rfl)
      · exact hp
      · exact k.aside (aside_draw s) hp
    split at h
    · next hn => exact k.exec (hdraw (nextHappening_some hn).2) h
    · next e standing w hn =>
      obtain ⟨hm, hw⟩ := nextHappening_some hn
      cases h
      have hset : w.setOff = s.setOff := by
        rcases hw with rfl | rfl
        · rfl
        · exact draw_setOff s
      have htake : (e, standing) ∈ takeable [] s.setOff := by
        simpa [State.happenings] using hm
      exact k.take (fun d hd hne => stands_of_takeable htake (hset ▸ hd) hne) (hdraw hw)
    · cases h; exact k.aside (aside_tick s) hp

end Kept

end Sys2Proof.Machine

/-! PROOFS. The conditions that the commands of the line table and of the records test, each as the proposition it decides, and what CONFIG_LANE and
CLEAR_FAULT leave of each lane and line. -/

namespace Sys2Proof.Machine

open Sys2Proof.Safety Sys2Proof.Spec

/-! ### Sets of lines -/

@[simp] theorem lineIn_empty (l : LineNo) : lineIn 0 l = false := by
  simp [lineIn]

theorem lineSubset_iff (a b : LineSet) : lineSubset a b = true ↔ ∀ l : LineNo, lineIn a l = true → lineIn b l = true := by
  unfold lineSubset lineIn
  rw [beq_iff_eq]
  constructor
  · intro h l hl
    have := congrArg (fun v => v.getLsbD l.val) h
    simpa [hl, l.isLt] using this
  · intro h
    apply BitVec.eq_of_getLsbD_eq
    intro i hi
    have := h ⟨i, hi⟩
    simp only [BitVec.getLsbD_and, BitVec.getLsbD_not, hi, decide_true, Bool.true_and] at this ⊢
    cases ha : a.getLsbD i <;> simp_all

theorem holdsPair_iff (partner : LineNo → Option LineNo) (s : LineSet) :
    holdsPair partner s = true ↔ ∃ l p : LineNo, lineIn s l = true ∧ partner l = some p ∧ lineIn s p = true := by
  simp only [holdsPair, List.any_eq_true, List.mem_finRange, true_and, Bool.and_eq_true]
  refine exists_congr fun l => ?_
  cases hp : partner l <;> simp

theorem holdsPair_false_iff (partner : LineNo → Option LineNo) (s : LineSet) :
    holdsPair partner s = false ↔ ∀ l p : LineNo, lineIn s l = true → partner l = some p → lineIn s p = false := by
  rw [← Bool.not_eq_true, holdsPair_iff]
  simp only [not_exists, not_and, Bool.not_eq_true]

/-! ### The checks -/

theorem lineTaken_iff (s : State) (n : LaneNo) (ls : LineSet) :
    s.lineTaken n ls = true ↔ ∃ (l : LineNo) (m : LaneNo), lineIn ls l = true ∧ (s.line l).owner = some m ∧ m ≠ n := by
  simp only [State.lineTaken, List.any_eq_true, List.mem_finRange, true_and, Bool.and_eq_true]
  refine exists_congr fun l => ?_
  cases ho : (s.line l).owner <;> simp

theorem leaderInvalid_none (s : State) (n : LaneNo) : s.leaderInvalid n none = false := rfl

theorem leaderInvalid_some_iff (s : State) (n m : LaneNo) : s.leaderInvalid n (some m) = true ↔
    m = n ∨ (s.lane m).config.leader ≠ none ∨ ∃ q, q ≠ n ∧ (s.lane q).config.leader = some n := by
  simp [State.leaderInvalid, Option.isSome_iff_ne_none, or_assoc]

/-- The owner's lane, if a line has one, is in OFF, IDLE or SAFE with an empty queue (R15, R17). -/
theorem ownerQuiet_iff (s : State) (l : LineNo) : s.ownerQuiet l = true ↔ ∀ n, (s.line l).owner = some n →
    ((s.lane n).state = .off ∨ (s.lane n).state = .idle ∨ (s.lane n).state = .safe) ∧ (s.lane n).queue = [] := by
  unfold State.ownerQuiet
  cases ho : (s.line l).owner <;> simp [or_assoc]

theorem inOwnRestSet_iff (s : State) (l : LineNo) :
    s.inOwnRestSet l = true ↔ ∃ n, (s.line l).owner = some n ∧ lineIn (s.lane n).config.restSet l = true := by
  unfold State.inOwnRestSet
  cases ho : (s.line l).owner <;> simp

theorem activePartner_some_iff (s : State) (l p : LineNo) : s.activePartner l = some p ↔ s.partner l = some p ∧ (s.line p).state = .active := by
  unfold State.activePartner
  cases hp : s.partner l with
  | none => simp
  | some q =>
    by_cases hq : (s.line q).state = .active
    · simp only [hq, if_true, Option.some.injEq]
      exact ⟨fun h => ⟨h, h ▸ hq⟩, fun h => h.1⟩
    · simp only [hq, if_false, Option.some.injEq, reduceCtorEq, false_iff, not_and]
      rintro rfl
      exact hq

theorem activePartner_none_iff (s : State) (l : LineNo) :
    s.activePartner l = none ↔ ∀ p, s.partner l = some p → (s.line p).state ≠ .active := by
  rw [Option.eq_none_iff_forall_ne_some]
  simp only [ne_eq, activePartner_some_iff, not_and]

/-- At least one lane is in SAFE (R18). -/
theorem someSafe_iff (s : State) : s.someSafe = true ↔ ∃ n, (s.lane n).state = .safe := by
  simp [State.someSafe]

/-- The numbers of a record that CONFIG_LANE reads are in range, and its rest set lies within its lines (R33, Table 2-1). -/
theorem configOfRaw_sound {raw : RawConfig} {c : LaneConfig} (h : configOfRaw raw = some c) :
    c.tickExp ≤ 10 ∧ c.guard ≤ 255 ∧ 1 ≤ c.blanking ∧ c.blanking ≤ 255 ∧ lineSubset c.restSet c.lines = true := by
  unfold configOfRaw at h
  split at h
  · split at h
    · next hr =>
      cases h
      obtain ⟨ht, hb, hs⟩ := hr
      have hg := raw.guard.isLt
      have hbl := raw.blanking.isLt
      have hb0 : raw.blanking.toNat ≠ 0 := fun h0 => hb (BitVec.eq_of_toNat_eq (by simpa using h0))
      exact ⟨ht, by dsimp only; omega, by dsimp only; omega, by dsimp only; omega, hs⟩
    · cases h
  · cases h

/-- All that an accepted CONFIG_LANE has passed (R33). -/
theorem configLaneCheck_ok {n : LaneNo} {raw : RawConfig} {s : State} {c : LaneConfig} (h : configLaneCheck n raw s = .ok c) :
    ((s.lane n).state = .off ∨ (s.lane n).state = .idle) ∧ (s.lane n).queue = [] ∧ configOfRaw raw = some c ∧ s.lineTaken n c.lines = false
      ∧ holdsPair s.partner c.restSet = false ∧ s.leaderInvalid n c.leader = false ∧ (s.kill.asserted = true → c.lines = 0) := by
  unfold configLaneCheck at h
  split at h
  · cases h
  · next hst =>
    split at h
    · cases h
    · next hq =>
      split at h
      · cases h
      · next c' hc =>
        split at h
        · cases h
        · next ht =>
          split at h
          · cases h
          · next hp =>
            split at h
            · cases h
            · next hl =>
              split at h
              · cases h
              · next hk =>
                cases h
                refine ⟨?_, not_not.1 hq, hc, by simpa using ht, by simpa using hp, by simpa using hl, fun ha => ?_⟩
                · by_contra hn
                  exact hst (not_or.1 hn)
                · by_contra hn
                  exact hk ⟨ha, hn⟩

/-! ### What CONFIG_LANE leaves -/

theorem lane_configure_self (s : State) (n : LaneNo) (c : LaneConfig) :
    (s.configure n c).lane n = { s.lane n with config := c, state := if c.lines = 0 then .off else .idle } := by
  unfold State.configure
  dsimp only
  split <;> simp

theorem lane_configure_ne (s : State) {n m : LaneNo} (c : LaneConfig) (h : m ≠ n) : (s.configure n c).lane m = s.lane m := by
  unfold State.configure
  dsimp only
  split <;> simp [h]

/-- One line after an accepted CONFIG_LANE: one of the new set is lane n's, and treated by the rest set from where it stood, or from INACTIVE
if it was gained; one that lane n loses is released (R13, R34). -/
theorem line_configure (s : State) (n : LaneNo) (c : LaneConfig) (l : LineNo) : (s.configure n c).line l =
    if lineIn c.lines l = true then
      { s.line l with
        owner := some n
        state := LineState.applied s.now (lineIn c.restSet l) (if (s.line l).owner = some n then (s.line l).state else .inactive) }
    else if (s.line l).owner = some n then { s.line l with owner := none, state := .float }
    else s.line l := by
  unfold State.configure
  dsimp only
  by_cases hz : c.lines = 0
  · rw [if_pos hz, line_setLaneState, line_assignLines, hz, lineIn_empty]
    simp only [Bool.false_eq_true, if_false]
    rfl
  · rw [if_neg hz, State.applyRest, line_applyPattern, line_setLaneState, line_assignLines]
    by_cases hl : lineIn c.lines l = true
    · by_cases ho : (s.line l).owner = some n
      · simp [hl, ho, State.setLaneState, State.assignLines, State.mapLines]
      · simp [hl, ho, State.setLaneState, State.assignLines, State.mapLines]
    · by_cases ho : (s.line l).owner = some n
      · simp [hl, ho]
      · simp [hl, ho]

theorem owner_configure (s : State) (n : LaneNo) (c : LaneConfig) (l : LineNo) : ((s.configure n c).line l).owner =
    if lineIn c.lines l = true then some n else if (s.line l).owner = some n then none else (s.line l).owner := by
  rw [line_configure]
  split
  · rfl
  · split <;> rfl

theorem partner_configure (s : State) (n : LaneNo) (c : LaneConfig) (l : LineNo) : (s.configure n c).partner l = s.partner l := by
  rw [State.partner, line_configure]
  split
  · rfl
  · split <;> rfl

/-- The blocks that CONFIG_LANE does not touch. -/
theorem configure_eq (s : State) (n : LaneNo) (c : LaneConfig) :
    s.configure n c = { s with lanes := (s.configure n c).lanes, lines := (s.configure n c).lines } := by
  unfold State.configure
  dsimp only
  split <;> rfl

/-! ### What CLEAR_FAULT leaves -/

theorem lane_clearSafe (s : State) (n m : LaneNo) : (s.clearSafe n).lane m = (s.setLaneState n .idle).lane m := rfl

theorem lane_clearSafe_self (s : State) (n : LaneNo) : (s.clearSafe n).lane n = { s.lane n with state := .idle } := by
  rw [lane_clearSafe, lane_setLaneState_self]

theorem lane_clearSafe_ne (s : State) {n m : LaneNo} (h : m ≠ n) : (s.clearSafe n).lane m = s.lane m := by
  rw [lane_clearSafe, lane_setLaneState_ne _ _ _ _ h]

theorem config_clearSafe (s : State) (n m : LaneNo) : ((s.clearSafe n).lane m).config = (s.lane m).config := by
  rw [lane_clearSafe]
  exact (laneAct_setLaneState s n .idle).config m

/-- One line after an accepted CLEAR_FAULT: those of lane n are treated by its rest set from INACTIVE (R140). -/
theorem line_clearSafe (s : State) (n : LaneNo) (l : LineNo) : (s.clearSafe n).line l =
    if (s.line l).owner = some n then
      { s.line l with state := if lineIn (s.lane n).config.restSet l = true then .pending s.now else .inactive }
    else s.line l := by
  have hl : (s.clearSafe n).line l = (((s.clearLines n).setLaneState n .idle).applyRest n).line l := rfl
  rw [hl, State.applyRest, line_applyPattern, line_setLaneState, line_clearLines, lane_setLaneState_self, lane_clearLines]
  by_cases ho : (s.line l).owner = some n
  · simp only [ho, if_true]
    by_cases hr : lineIn (s.lane n).config.restSet l = true
    · simp [hr, LineState.applied]; rfl
    · simp [hr, LineState.applied]
  · simp [ho]

theorem owner_clearSafe (s : State) (n : LaneNo) (l : LineNo) : ((s.clearSafe n).line l).owner = (s.line l).owner := by
  rw [line_clearSafe]; split <;> rfl

theorem partner_clearSafe (s : State) (n : LaneNo) (l : LineNo) : (s.clearSafe n).partner l = s.partner l := by
  rw [State.partner, line_clearSafe]; split <;> rfl

/-- FAULT_N after an accepted CLEAR_FAULT (R18, R140). -/
theorem faultN_clearSafe (s : State) (n : LaneNo) : (s.clearSafe n).faultN = (s.clearSafe n).someSafe := rfl

/-- The blocks that CLEAR_FAULT does not touch. -/
theorem clearSafe_eq (s : State) (n : LaneNo) :
    s.clearSafe n = { s with lanes := (s.clearSafe n).lanes, lines := (s.clearSafe n).lines, faultN := (s.clearSafe n).faultN } := rfl

/-! ### What a pair leaves -/

/-- One line after two of them have been written alike. -/
theorem line_updPair (s : State) {x y : LineNo} (h : x ≠ y) (f g : LineRec → LineRec) (l : LineNo) :
    ((s.updLine x f).updLine y g).line l = if l = x then f (s.line x) else if l = y then g (s.line y) else s.line l := by
  rw [line_updLine, line_updLine, line_updLine]
  by_cases hx : l = x
  · subst hx
    simp [h]
  · by_cases hy : l = y
    · subst hy
      simp [hx]
    · simp [hx, hy]

theorem partner_pairLines (s : State) {x y : LineNo} (h : x ≠ y) (l : LineNo) :
    (s.pairLines x y).partner l = if l = x then some y else if l = y then some x else s.partner l := by
  rw [State.partner, State.pairLines, line_updPair s h]
  split
  · rfl
  · split <;> rfl

theorem partner_unpairLines (s : State) {x y : LineNo} (h : x ≠ y) (l : LineNo) :
    (s.unpairLines x y).partner l = if l = x ∨ l = y then none else s.partner l := by
  rw [State.partner, State.unpairLines, line_updPair s h]
  by_cases hx : l = x
  · simp [hx]
  · by_cases hy : l = y
    · subst hy
      simp [hx]
    · simp [hx, hy, State.partner]

/-- A pair changes the partner fields of its two lines alone (R16). -/
theorem line_pairLines (s : State) {x y : LineNo} (h : x ≠ y) (l : LineNo) :
    (s.pairLines x y).line l = { s.line l with partner := (s.pairLines x y).partner l } := by
  rw [partner_pairLines s h, State.pairLines, line_updPair s h]
  by_cases hx : l = x
  · simp [hx]
  · by_cases hy : l = y
    · subst hy
      simp [hx]
    · simp [hx, hy, State.partner]

theorem line_unpairLines (s : State) {x y : LineNo} (h : x ≠ y) (l : LineNo) :
    (s.unpairLines x y).line l = { s.line l with partner := (s.unpairLines x y).partner l } := by
  rw [partner_unpairLines s h, State.unpairLines, line_updPair s h]
  by_cases hx : l = x
  · simp [hx]
  · by_cases hy : l = y
    · subst hy
      simp [hx]
    · simp [hx, hy, State.partner]

end Sys2Proof.Machine

/-! PROOFS. The configuration records, and the times that the state holds: each is kept by everything that a step does. -/

namespace Sys2Proof.Machine

open Sys2Proof.Safety Sys2Proof.Spec

/-! ### The configuration records (chapter 2) -/

/-- Soundness of the records depends on the records, the owners and the partners alone. -/
theorem configSound_congr {s t : State} (hc : ∀ n, (t.lane n).config = (s.lane n).config) (ho : ∀ l, (t.line l).owner = (s.line l).owner)
    (hp : ∀ l, t.partner l = s.partner l) (h : ConfigSound s) : ConfigSound t := by
  have hpart : t.partner = s.partner := funext hp
  simpa only [ConfigSound, PartnersAgree, OwnersAgree, LeaderDepthOne, RestSetsSound, RecordsInRange, hc, ho, hpart] using h

theorem LaneFrame.configSound {n : LaneNo} {s t : State} (a : LaneFrame n s t) (h : ConfigSound s) : ConfigSound t :=
  configSound_congr a.config a.owner a.partner h

/-- A line that changes neither owner nor partner. -/
theorem configSound_updLine {s : State} {l : LineNo} {f : LineRec → LineRec} (ho : (f (s.line l)).owner = (s.line l).owner)
    (hp : (f (s.line l)).partner = (s.line l).partner) (h : ConfigSound s) : ConfigSound (s.updLine l f) := by
  refine configSound_congr (s := s) (fun _ => rfl) (fun m => ?_) (fun m => ?_) h
  · rw [line_updLine]
    split
    · next hm => rw [ho, hm]
    · rfl
  · rw [State.partner, line_updLine]
    split
    · next hm => rw [hp, hm]; rfl
    · rfl

/-- Two lines without a partner become partners (R16). -/
theorem partnersAgree_pairLines {s : State} {x y : LineNo} (hxy : x ≠ y) (hx : s.partner x = none) (hy : s.partner y = none)
    (h : PartnersAgree s) : PartnersAgree (s.pairLines x y) := by
  intro l p hl
  rw [partner_pairLines s hxy] at hl ⊢
  by_cases hlx : l = x
  · rw [if_pos hlx] at hl
    cases hl
    rw [if_neg hxy.symm, if_pos rfl, hlx]
    exact ⟨hxy.symm, rfl⟩
  · rw [if_neg hlx] at hl
    by_cases hly : l = y
    · rw [if_pos hly] at hl
      cases hl
      rw [if_pos rfl, hly]
      exact ⟨hxy, rfl⟩
    · rw [if_neg hly] at hl
      obtain ⟨hne, hback⟩ := h l p hl
      have hpx : p ≠ x := fun e => by rw [e, hx] at hback; cases hback
      have hpy : p ≠ y := fun e => by rw [e, hy] at hback; cases hback
      rw [if_neg hpx, if_neg hpy]
      exact ⟨hne, hback⟩

/-- The two lines of a pair are different. -/
theorem ne_of_partners {s : State} {x y : LineNo} (h : PartnersAgree s) (hxy : s.partner x = some y) : x ≠ y :=
  (h x y hxy).1.symm

/-- A pair is dissolved (R17). -/
theorem partnersAgree_unpairLines {s : State} {x y : LineNo} (hxy : s.partner x = some y) (h : PartnersAgree s) :
    PartnersAgree (s.unpairLines x y) := by
  have hne := ne_of_partners h hxy
  intro l p hl
  rw [partner_unpairLines s hne] at hl ⊢
  by_cases hlxy : l = x ∨ l = y
  · rw [if_pos hlxy] at hl
    cases hl
  · rw [if_neg hlxy] at hl
    obtain ⟨hpl, hback⟩ := h l p hl
    have hp : ¬ (p = x ∨ p = y) := by
      rintro (rfl | rfl)
      · rw [hxy] at hback
        cases hback
        exact hlxy (Or.inr rfl)
      · rw [(h _ _ hxy).2] at hback
        cases hback
        exact hlxy (Or.inl rfl)
    rw [if_neg hp]
    exact ⟨hpl, hback⟩

/-- Two lines that no lane has both in its rest set become partners (R15, R30). -/
theorem configSound_pairLines {s : State} {x y : LineNo} (hxy : x ≠ y) (hx : s.partner x = none) (hy : s.partner y = none)
    (hrest : ¬ (s.inOwnRestSet x = true ∧ s.inOwnRestSet y = true)) (h : ConfigSound s) : ConfigSound (s.pairLines x y) := by
  obtain ⟨hp, ho, hl, hr, hn⟩ := h
  have hlane : ∀ n, (s.pairLines x y).lane n = s.lane n := fun _ => rfl
  have hown : ∀ l, ((s.pairLines x y).line l).owner = (s.line l).owner := fun l => by rw [line_pairLines s hxy]
  refine ⟨partnersAgree_pairLines hxy hx hy hp, fun l n => by rw [hown, hlane]; exact ho l n, hl, fun n => ⟨(hr n).1, ?_⟩, hn⟩
  rw [holdsPair_false_iff, hlane]
  have hin : ∀ l, lineIn (s.lane n).config.restSet l = true → s.inOwnRestSet l = true := fun l hm =>
    (inOwnRestSet_iff s l).2 ⟨n, (ho l n).2 ((lineSubset_iff _ _).1 (hr n).1 l hm), hm⟩
  intro l p hlin hpart
  rw [partner_pairLines s hxy] at hpart
  by_cases hlx : l = x
  · rw [if_pos hlx] at hpart
    cases hpart
    exact Bool.eq_false_iff.2 fun hm => hrest ⟨hlx ▸ hin l hlin, hin _ hm⟩
  · rw [if_neg hlx] at hpart
    by_cases hly : l = y
    · rw [if_pos hly] at hpart
      cases hpart
      exact Bool.eq_false_iff.2 fun hm => hrest ⟨hin _ hm, hly ▸ hin l hlin⟩
    · rw [if_neg hly] at hpart
      exact (holdsPair_false_iff _ _).1 (hr n).2 l p hlin hpart

theorem configSound_unpairLines {s : State} {x y : LineNo} (hxy : s.partner x = some y) (h : ConfigSound s) :
    ConfigSound (s.unpairLines x y) := by
  obtain ⟨hp, ho, hl, hr, hn⟩ := h
  have hne := ne_of_partners hp hxy
  have hlane : ∀ n, (s.unpairLines x y).lane n = s.lane n := fun _ => rfl
  have hown : ∀ l, ((s.unpairLines x y).line l).owner = (s.line l).owner := fun l => by rw [line_unpairLines s hne]
  refine ⟨partnersAgree_unpairLines hxy hp, fun l n => by rw [hown, hlane]; exact ho l n, hl, fun n => ⟨(hr n).1, ?_⟩, hn⟩
  rw [holdsPair_false_iff, hlane]
  intro l p hlin hpart
  rw [partner_unpairLines s hne] at hpart
  split at hpart
  · cases hpart
  · exact (holdsPair_false_iff _ _).1 (hr n).2 l p hlin hpart

/-- An accepted CONFIG_LANE: the new record has passed its checks, and the lines follow it (R13, R27, R33, R34). -/
theorem configSound_configure {s : State} {n : LaneNo} {raw : RawConfig} {c : LaneConfig} (hok : configLaneCheck n raw s = .ok c)
    (h : ConfigSound s) : ConfigSound (s.configure n c) := by
  obtain ⟨hp, ho, hl, hr, hn⟩ := h
  obtain ⟨-, -, hraw, htaken, hpair, hlead, -⟩ := configLaneCheck_ok hok
  obtain ⟨htick, hguard, hb1, hb2, hsub⟩ := configOfRaw_sound hraw
  have hpart : (s.configure n c).partner = s.partner := funext (partner_configure s n c)
  have hfree : ∀ l m, lineIn c.lines l = true → (s.line l).owner = some m → m = n := by
    intro l m hlin hown
    by_contra hne
    have := (lineTaken_iff s n c.lines).2 ⟨l, m, hlin, hown, hne⟩
    rw [htaken] at this
    cases this
  refine ⟨?_, fun l m => ?_, fun p m hpm => ?_, fun m => ?_, fun m => ?_⟩
  · simpa only [PartnersAgree, hpart] using hp
  · rw [owner_configure]
    by_cases hm : m = n
    · subst hm
      rw [lane_configure_self]
      by_cases hlin : lineIn c.lines l = true
      · simp [hlin]
      · simp only [hlin, if_false, Bool.false_eq_true, iff_false]
        split
        · simp
        · next hown => exact hown
    · rw [lane_configure_ne s c hm, ← ho l m]
      by_cases hlin : lineIn c.lines l = true
      · rw [if_pos hlin]
        exact ⟨fun e => absurd (Option.some.inj e).symm hm, fun e => absurd (hfree l m hlin e) hm⟩
      · rw [if_neg hlin]
        split
        · next hown => rw [hown]; exact ⟨fun e => (by cases e), fun e => absurd (Option.some.inj e).symm hm⟩
        · rfl
  · by_cases hpn : p = n
    · subst hpn
      rw [lane_configure_self] at hpm
      have hpm : c.leader = some m := hpm
      rw [hpm] at hlead
      have hnot := mt (leaderInvalid_some_iff s p m).2 (by simp [hlead])
      simp only [not_or, not_not] at hnot
      obtain ⟨hmp, hnone, -⟩ := hnot
      rw [lane_configure_ne s c hmp]
      exact ⟨hmp, hnone⟩
    · rw [lane_configure_ne s c hpn] at hpm
      obtain ⟨hmp, hnone⟩ := hl p m hpm
      refine ⟨hmp, ?_⟩
      by_cases hmn : m = n
      · subst hmn
        rw [lane_configure_self]
        cases hc : c.leader with
        | none => rfl
        | some q =>
          rw [hc] at hlead
          have := (leaderInvalid_some_iff s m q).2 (Or.inr (Or.inr ⟨p, hpn, hpm⟩))
          rw [hlead] at this
          cases this
      · rw [lane_configure_ne s c hmn]; exact hnone
  · rw [hpart]
    by_cases hm : m = n
    · subst hm
      rw [lane_configure_self]
      exact ⟨hsub, hpair⟩
    · rw [lane_configure_ne s c hm]
      exact hr m
  · by_cases hm : m = n
    · subst hm
      rw [lane_configure_self]
      exact ⟨htick, hguard, hb1, hb2⟩
    · rw [lane_configure_ne s c hm]
      exact hn m

/-- A part whose lines and records stand at their reset values. -/
theorem configSound_of_reset {s : State} (hl : ∀ l, s.line l = LineRec.reset) (hn : ∀ n, s.lane n = LaneRec.reset) : ConfigSound s := by
  have hp : ∀ l, s.partner l = none := fun l => by rw [State.partner, hl l]; rfl
  refine ⟨fun l p h => ?_, fun l n => ?_, fun n m h => ?_, fun n => ⟨?_, ?_⟩, fun n => ?_⟩
  · rw [hp] at h; cases h
  · rw [hl, hn]
    simp [LineRec.reset, LaneRec.reset, LaneConfig.reset, lineIn]
  · rw [hn] at h; cases h
  · rw [hn]; rfl
  · rw [holdsPair_false_iff]
    intro l p _ h
    rw [hp] at h; cases h
  · rw [hn]
    simp [LaneRec.reset, LaneConfig.reset]

theorem line_pinReset (now : Nat) (pending : List Instr) (choices : List Nat) (draws : Nat) (l : LineNo) :
    ({ State.reset with now := now, pending := pending, choices := choices, draws := draws } : State).line l = LineRec.reset := line_reset l

theorem lane_pinReset (now : Nat) (pending : List Instr) (choices : List Nat) (draws : Nat) (n : LaneNo) :
    ({ State.reset with now := now, pending := pending, choices := choices, draws := draws } : State).lane n = LaneRec.reset := lane_reset n

theorem line_reinit (s : State) (l : LineNo) : s.reinit.line l = LineRec.reset := line_reset l

theorem lane_reinit (s : State) (n : LaneNo) : s.reinit.lane n = LaneRec.reset := lane_reset n

theorem configSound_kept : Kept ConfigSound where
  aside a h := configSound_congr (fun n => by rw [a.lane n]) (fun l => by rw [a.line l]) a.partner h
  turn a h := a.configSound h
  safeTaken {s n c standing} _ h := (laneTurn_enterSafe { s with setOff := standing } n c).configSound h
  configLine _ _ _ h := configSound_updLine rfl rfl h
  setPair hxy hx hy _ _ hrest h := configSound_pairLines hxy hx hy hrest h
  clearPair hxy h := configSound_unpairLines hxy h
  configure _ hok h := configSound_configure hok h
  clearFault {s n} _ _ h := configSound_congr (config_clearSafe s n) (owner_clearSafe s n) (partner_clearSafe s n) h
  withheld {s l _ _} _ _ _ h := configSound_updLine (s := s) (l := l) (f := fun r => { r with state := .inactive }) rfl rfl h
  activates _ _ h := configSound_updLine rfl rfl h
  reinit {s} _ := configSound_of_reset (line_reinit s) (lane_reinit s)
  pinReset now pending choices draws := configSound_of_reset (line_pinReset now pending choices draws) (lane_pinReset now pending choices draws)

/-! ### Times (section 0) -/

/-- With the other blocks as they were, the times are past when each line that is PENDING and each step in progress is so from a time that is
past. -/
theorem timesPast_of_lanes {s t : State} (u : Untouched s t)
    (hl : ∀ l x, (t.line l).state = .pending x → (s.line l).state = .pending x ∨ x = s.now)
    (hr : ∀ n r, (t.lane n).run = some r → r.startedAt = s.now ∨ ∃ q, (s.lane n).run = some q ∧ r.startedAt = q.startedAt)
    (h : TimesPast s) : TimesPast t := by
  obtain ⟨h1, h2, h3, h4, h5, h6, h7, h8, h9⟩ := h
  have htrig : ∀ i, t.trigger i = s.trigger i := fun i => by simp only [State.trigger, u.triggers]
  refine ⟨fun l x hx => ?_, fun n r hx => ?_, ?_, ?_, ?_, ?_, ?_, ?_, ?_⟩
  · rw [u.now]
    obtain hx | rfl := hl l x hx
    · exact h1 l x hx
    · exact le_rfl
  · rw [u.now]
    obtain hx | ⟨q, hq, hx⟩ := hr n r hx
    · exact hx.le
    · exact hx ▸ h2 n q hq
  · simpa only [u.now, u.tx] using h3
  · simpa only [u.now, u.phase] using h4
  · simpa only [u.now, htrig] using h5
  · simpa only [u.now, u.sync] using h6
  · simpa only [u.now, u.sync] using h7
  · simpa only [u.now, u.kill] using h8
  · simpa only [u.now, u.rx] using h9

theorem timesPast_move {n : LaneNo} {s t : State} (a : LaneMove n s t) (h : TimesPast s) : TimesPast t := by
  refine timesPast_of_lanes a.untouched a.since (fun m r hr => ?_) h
  by_cases hm : m = n
  · subst hm
    exact a.began r hr
  · rw [a.lane m hm] at hr
    exact Or.inr ⟨r, hr, rfl⟩

theorem timesPast_aside {s t : State} (a : Aside s t) (h : TimesPast s) : TimesPast t := by
  obtain ⟨h1, h2, h3, h4, h5, h6, h7, h8, h9⟩ := h
  have hnow := a.now
  refine ⟨fun l x hx => ?_, fun n r hr => ?_, fun x hx => ?_, fun x hx => ?_, fun i => ?_, ?_, ?_, ?_, fun x hx => ?_⟩
  · exact (h1 l x (a.line l ▸ hx)).trans hnow
  · exact (h2 n r (a.lane n ▸ hr)).trans hnow
  · exact (a.sending x hx).elim (fun hx => (h3 x hx).trans hnow) id
  · exact (a.starting x hx).elim (fun hx => (h4 x hx).trans hnow) id
  · exact (a.trigger i).elim (fun hx => hx ▸ (h5 i).trans hnow) id
  · exact a.syncSince.elim (fun hx => hx ▸ h6.trans hnow) id
  · exact a.released.elim (fun hx => hx ▸ h7.trans hnow) id
  · exact a.killSince.elim (fun hx => hx ▸ h8.trans hnow) id
  · exact (a.quiet x hx).elim (fun hx => (h9 x hx).trans hnow) id

/-- A line changes, and is not PENDING unless it was. -/
theorem timesPast_updLine {s : State} {l : LineNo} {f : LineRec → LineRec}
    (hf : ∀ x, (f (s.line l)).state = .pending x → (s.line l).state = .pending x) (h : TimesPast s) : TimesPast (s.updLine l f) := by
  refine timesPast_of_lanes (s := s) ⟨rfl, rfl, rfl, rfl, rfl, rfl, rfl, rfl, rfl, rfl, rfl, rfl, rfl⟩ (fun m x hx => Or.inl ?_)
    (fun n r hr => Or.inr ⟨r, hr, rfl⟩) h
  rw [line_updLine] at hx
  split at hx
  · next hm => rw [hm]; exact hf x hx
  · exact hx

theorem timesPast_configure {s : State} {n : LaneNo} {c : LaneConfig} (h : TimesPast s) : TimesPast (s.configure n c) := by
  have hu : Untouched s (s.configure n c) := by
    rw [configure_eq]
    exact ⟨rfl, rfl, rfl, rfl, rfl, rfl, rfl, rfl, rfl, rfl, rfl, rfl, rfl⟩
  refine timesPast_of_lanes hu (fun l x hx => ?_) (fun m r hr => Or.inr ⟨r, ?_, rfl⟩) h
  · rw [line_configure] at hx
    split at hx
    · obtain hx | rfl := since_of_applied hx
      · split at hx
        · exact Or.inl hx
        · cases hx
      · exact Or.inr rfl
    · split at hx
      · cases hx
      · exact Or.inl hx
  · by_cases hm : m = n
    · subst hm
      rw [lane_configure_self] at hr
      exact hr
    · rw [lane_configure_ne s c hm] at hr
      exact hr

theorem timesPast_clearSafe {s : State} {n : LaneNo} (h : TimesPast s) : TimesPast (s.clearSafe n) := by
  refine timesPast_of_lanes (by rw [clearSafe_eq]; exact ⟨rfl, rfl, rfl, rfl, rfl, rfl, rfl, rfl, rfl, rfl, rfl, rfl, rfl⟩)
    (fun l x hx => ?_) (fun m r hr => Or.inr ⟨r, ?_, rfl⟩) h
  · rw [line_clearSafe] at hx
    split at hx
    · split at hx
      · cases hx; exact Or.inr rfl
      · cases hx
    · exact Or.inl hx
  · by_cases hm : m = n
    · subst hm
      rw [lane_clearSafe_self] at hr
      exact hr
    · rw [lane_clearSafe_ne s hm] at hr
      exact hr

/-- REINIT keeps the message in transmission (R156). -/
theorem sending_reinit (x : Transmitter) : x.reinit.sending = x.sending := by
  unfold Transmitter.reinit
  split <;> rfl

theorem timesPast_reinit {s : State} (h : TimesPast s) : TimesPast s.reinit := by
  obtain ⟨-, -, h3, h4, h5, h6, h7, h8, h9⟩ := h
  refine ⟨fun l x hx => ?_, fun n r hr => ?_, fun x hx => h3 x (by rw [← sending_reinit]; exact hx), h4, h5, ?_, ?_, h8, h9⟩
  · rw [line_reinit] at hx; cases hx
  · rw [lane_reinit] at hr; cases hr
  · change (s.sync.release s.now).since ≤ s.now
    unfold SyncUnit.release
    split
    · exact h6
    · exact h6
  · change (s.sync.release s.now).releasedAt ≤ s.now
    unfold SyncUnit.release
    split
    · exact h7
    · exact le_rfl

theorem timesPast_pinReset (now : Nat) (pending : List Instr) (choices : List Nat) (draws : Nat) :
    TimesPast { State.reset with now := now, pending := pending, choices := choices, draws := draws } := by
  refine ⟨fun l x hx => ?_, fun n r hr => ?_, fun x hx => ?_, fun x hx => ?_, fun i => ?_, ?_, ?_, ?_, fun x hx => ?_⟩
  · rw [line_pinReset] at hx; cases hx
  · rw [lane_pinReset] at hr; cases hr
  · cases hx
  · cases hx
  · have : ({ State.reset with now := now, pending := pending, choices := choices, draws := draws } : State).trigger i
        = TriggerFilter.reset := trigger_reset i
    rw [this]
    exact Nat.zero_le _
  · exact Nat.zero_le _
  · exact Nat.zero_le _
  · exact Nat.zero_le _
  · cases hx

theorem timesPast_kept : Kept TimesPast where
  aside a h := timesPast_aside a h
  turn a h := timesPast_move a.toLaneMove h
  safeTaken {s n c standing} _ h := timesPast_move (laneMove_enterSafe { s with setOff := standing } n c) h
  configLine _ _ _ h := timesPast_updLine (fun _ hx => hx) h
  setPair _ _ _ _ _ _ h := timesPast_updLine (fun _ hx => hx) (timesPast_updLine (fun _ hx => hx) h)
  clearPair _ h := timesPast_updLine (fun _ hx => hx) (timesPast_updLine (fun _ hx => hx) h)
  configure _ _ h := timesPast_configure h
  clearFault _ _ h := timesPast_clearSafe h
  withheld {s l _ _} _ _ _ h := timesPast_updLine (s := s) (l := l) (f := fun r => { r with state := .inactive }) (fun _ hx => by cases hx) h
  activates _ _ h := timesPast_updLine (fun _ hx => by cases hx) h
  reinit h := timesPast_reinit h
  pinReset := timesPast_pinReset

end Sys2Proof.Machine

/-! PROOFS. The line table and safe hold: each is kept by everything that a step does. -/

namespace Sys2Proof.Machine

open Sys2Proof.Safety Sys2Proof.Spec

/-! ### The line table (chapter 1) -/

/-- A line that is PENDING stands at no safe level. -/
theorem pending_ne_safeLevel {a : Nat} {v : SafeLevel} : LineState.pending a ≠ v.state := by
  cases v <;> simp [SafeLevel.state]

/-- Lane n has moved, out of s or out of s with other events in flight: the line table stays sound when each interlock block still stands, but one
for lane n if it is no longer at rest. -/
theorem linesSound_move {n : LaneNo} {s v t : State} (a : LaneMove n v t) (hv : ∀ l, v.line l = s.line l) (hn : ∀ m, v.lane m = s.lane m)
    (hb : ∀ m, m ≠ n ∨ (t.lane n).state.atRest → blockStands s m → blockStands t m) (h : LinesSound s) : LinesSound t := by
  obtain ⟨hp, hap, hu, hr⟩ := h
  have howner : ∀ l, (t.line l).owner = (s.line l).owner := fun l => (a.owner l).trans (by rw [hv l])
  have hpart : ∀ l, t.partner l = s.partner l := fun l => (a.partner l).trans (by rw [State.partner, hv l]; rfl)
  have hactive : ∀ l, (t.line l).state = .active → (s.line l).state = .active := fun l hl => hv l ▸ a.active l hl
  have helse : ∀ l, (s.line l).owner ≠ some n → t.line l = s.line l := fun l hl => (a.lineElse l (by rw [hv l]; exact hl)).trans (hv l)
  refine ⟨fun l p hl => ?_, fun l p hl hl' hp' => ?_, fun l hl => ?_, fun l m hl => ?_⟩
  · rw [hpart] at hl ⊢
    exact hp l p hl
  · rw [hpart] at hl
    exact hap l p hl (hactive l hl') (hactive p hp')
  · rw [howner] at hl
    rw [helse l (by rw [hl]; simp)]
    exact hu l hl
  · rw [howner] at hl
    by_cases hm : m = n
    · subst hm
      obtain ⟨hoff, hrest, hsafe⟩ := hr l m hl
      have hcfg : (t.lane m).config = (s.lane m).config := (a.config m).trans (by rw [hn m])
      cases a.outcome with
      | stays st _ lines _ =>
        rw [hn m] at st
        rw [(lines l).trans (hv l), hcfg]
        refine ⟨fun ht => ?_, fun ht => ?_, fun ht => hsafe ?_⟩
        · rcases st with st | ⟨-, st⟩
          · exact hoff (st.trans ht)
          · rw [ht] at st; simp [LaneState.atRest] at st
        · have hs : (s.lane m).state.atRest := by
            rcases st with st | ⟨st, -⟩
            · rw [st]; exact ht
            · exact st
          exact ⟨(hrest hs).1, fun hin => ((hrest hs).2 hin).imp_right (hb m (Or.inr ht))⟩
        · rcases st with st | ⟨-, st⟩
          · exact st.trans ht
          · rw [ht] at st; simp [LaneState.atRest] at st
      | plays st _ =>
        refine ⟨fun ht => ?_, fun ht => ?_, fun ht => ?_⟩
        · rw [ht] at st; cases st
        · rcases ht with ht | ht <;> · rw [ht] at st; cases st
        · rw [ht] at st; cases st
      | rests st lines _ =>
        have hc := lines l (by rw [howner]; exact hl)
        refine ⟨fun ht => ?_, fun _ => ⟨fun h1 => hc ▸ h1, fun h1 => Or.inl (hc.trans h1)⟩, fun ht => ?_⟩
        · rw [ht] at st; simp [LaneState.atRest] at st
        · rw [ht] at st; simp [LaneState.atRest] at st
      | holds st _ lines _ =>
        exact ⟨by simp [st], by simp [st], fun _ => lines l (by rw [howner]; exact hl)⟩
    · have hlane : t.lane m = s.lane m := (a.lane m hm).trans (hn m)
      rw [helse l (by rw [hl]; exact fun e => hm (Option.some.inj e)), hlane]
      obtain ⟨hoff, hrest, hsafe⟩ := hr l m hl
      exact ⟨hoff, fun hs => ⟨(hrest hs).1, fun hin => ((hrest hs).2 hin).imp_right (hb m (Or.inl hm))⟩, hsafe⟩

theorem linesSound_aside {s t : State} (a : Aside s t) (h : LinesSound s) : LinesSound t := by
  obtain ⟨hp, hap, hu, hr⟩ := h
  refine ⟨fun l p => ?_, fun l p => ?_, fun l => ?_, fun l m => ?_⟩
  · simpa only [a.partner] using hp l p
  · simpa only [a.partner, a.line] using hap l p
  · simpa only [a.line] using hu l
  · rw [a.line, a.lane]
    intro hl
    obtain ⟨hoff, hrest, hsafe⟩ := hr l m hl
    refine ⟨hoff, fun hs => ⟨(hrest hs).1, fun hin => ((hrest hs).2 hin).imp_right ?_⟩, hsafe⟩
    rintro ⟨x, y, hxy⟩
    exact ⟨x, y, a.stands _ _ hxy⟩

/-- A cause of safe hold leaves its lane in OFF or in SAFE (R130, R131). -/
theorem enterSafe_state (s : State) (n : LaneNo) (c : SafeCause) :
    ((s.enterSafe n c).lane n).state = .safe ∨ (s.lane n).state = .off ∧ s.enterSafe n c = s := by
  by_cases ho : (s.lane n).state = .off
  · exact Or.inr ⟨ho, enterSafe_unmoved (Or.inl ho)⟩
  · by_cases hs : (s.lane n).state = .safe
    · exact Or.inl (by rw [enterSafe_unmoved (Or.inr hs)]; exact hs)
    · exact Or.inl (by rw [enterSafe_of ho hs, lane_safeStages])

theorem linesSound_safeTaken {s : State} {n : LaneNo} {c : SafeCause} {standing : List SetOff}
    (hd : ∀ d ∈ s.setOff, d ≠ .safe n c → d ∈ standing) (h : LinesSound s) :
    LinesSound (State.enterSafe { s with setOff := standing } n c) := by
  have a := laneMove_enterSafe { s with setOff := standing } n c
  refine linesSound_move (s := s) a (fun _ => rfl) (fun _ => rfl) ?_ h
  rintro m hm ⟨x, y, hxy⟩
  rcases hm with hm | hm
  · exact ⟨x, y, a.stands _ (hd _ hxy (by simp [hm]))⟩
  · rcases enterSafe_state { s with setOff := standing } n c with hs | ⟨hs, he⟩
    · rw [hs] at hm; simp [LaneState.atRest] at hm
    · rw [he, hs] at hm; simp [LaneState.atRest] at hm

/-- CONFIG_LINE writes an unowned line (R14). -/
theorem linesSound_configLine {s : State} {l : LineNo} (p : Polarity) (v : SafeLevel) (ho : (s.line l).owner = none) (h : LinesSound s) :
    LinesSound (s.updLine l fun r => { r with polarity := p, safeLevel := v }) := by
  obtain ⟨hp, hap, hu, hr⟩ := h
  have hline : ∀ m, ((s.updLine l fun r => { r with polarity := p, safeLevel := v }).line m).owner = (s.line m).owner
      ∧ ((s.updLine l fun r => { r with polarity := p, safeLevel := v }).line m).state = (s.line m).state
      ∧ (s.updLine l fun r => { r with polarity := p, safeLevel := v }).partner m = s.partner m := by
    intro m
    rw [State.partner, line_updLine]
    split
    · next hm => rw [hm]; exact ⟨rfl, rfl, rfl⟩
    · exact ⟨rfl, rfl, rfl⟩
  refine ⟨fun m q => ?_, fun m q => ?_, fun m => ?_, fun m n hm => ?_⟩
  · simpa only [(hline _).2.2] using hp m q
  · simpa only [(hline _).2.2, (hline _).2.1] using hap m q
  · simpa only [(hline _).1, (hline _).2.1] using hu m
  · rw [(hline m).1] at hm
    have hne : m ≠ l := fun e => by rw [e, ho] at hm; cases hm
    rw [line_updLine_ne _ _ _ _ hne]
    exact hr m n hm

/-- Partner fields change, and nothing else of a line: what the owner's state says of the lines stands (R16, R17). -/
theorem linesSound_repair {s t : State} (hline : ∀ l, t.line l = { s.line l with partner := t.partner l }) (hlane : ∀ n, t.lane n = s.lane n)
    (hset : t.setOff = s.setOff) (hp : PartnersAgree t) (hap : PairsApart t) (h : LinesSound s) : LinesSound t := by
  obtain ⟨-, -, hu, hr⟩ := h
  refine ⟨hp, hap, fun l => ?_, fun l n => ?_⟩
  · rw [hline l]; exact hu l
  · have := hr l n
    rw [hline l, hlane n]
    simpa only [blockStands, hset] using this

/-- Of the lines of quiet lanes only those in their owner's rest set can be ACTIVE (R15). -/
theorem inOwnRestSet_of_active {s : State} {l : LineNo} (h : LinesSound s) (hq : s.ownerQuiet l = true)
    (ha : (s.line l).state = .active) : s.inOwnRestSet l = true := by
  obtain ⟨-, -, hu, hr⟩ := h
  cases ho : (s.line l).owner with
  | none =>
    have := hu l ho
    rw [ha] at this; cases this
  | some n =>
    obtain ⟨hoff, hrest, hsafe⟩ := hr l n ho
    obtain ⟨hst, -⟩ := (ownerQuiet_iff s l).1 hq n ho
    rcases hst with hst | hst | hst
    · exact absurd hst hoff
    · exact (inOwnRestSet_iff s l).2 ⟨n, ho, (hrest (Or.inl hst)).1 (by rw [ha]; rfl)⟩
    · have := hsafe hst
      rw [ha] at this
      cases hv : (s.line l).safeLevel <;> rw [hv] at this <;> cases this

theorem linesSound_setPair {s : State} {x y : LineNo} (hxy : x ≠ y) (hx : s.partner x = none) (hy : s.partner y = none)
    (hqx : s.ownerQuiet x = true) (hqy : s.ownerQuiet y = true) (hrest : ¬ (s.inOwnRestSet x = true ∧ s.inOwnRestSet y = true))
    (h : LinesSound s) : LinesSound (s.pairLines x y) := by
  refine linesSound_repair (line_pairLines s hxy) (fun _ => rfl) rfl (partnersAgree_pairLines hxy hx hy h.1) ?_ h
  intro l p hl ha hpa
  have hstate : ∀ m, ((s.pairLines x y).line m).state = (s.line m).state := fun m => by rw [line_pairLines s hxy]
  rw [hstate] at ha hpa
  rw [partner_pairLines s hxy] at hl
  have hboth : ¬ ((s.line x).state = .active ∧ (s.line y).state = .active) := fun ⟨h1, h2⟩ =>
    hrest ⟨inOwnRestSet_of_active h hqx h1, inOwnRestSet_of_active h hqy h2⟩
  by_cases hlx : l = x
  · rw [if_pos hlx] at hl
    cases hl
    exact hboth ⟨hlx ▸ ha, hpa⟩
  · rw [if_neg hlx] at hl
    by_cases hly : l = y
    · rw [if_pos hly] at hl
      cases hl
      exact hboth ⟨hpa, hly ▸ ha⟩
    · rw [if_neg hly] at hl
      exact h.2.1 l p hl ha hpa

theorem linesSound_clearPair {s : State} {x y : LineNo} (hxy : s.partner x = some y) (h : LinesSound s) : LinesSound (s.unpairLines x y) := by
  have hne := ne_of_partners h.1 hxy
  refine linesSound_repair (line_unpairLines s hne) (fun _ => rfl) rfl (partnersAgree_unpairLines hxy h.1) ?_ h
  intro l p hl ha
  have hstate : ∀ m, ((s.unpairLines x y).line m).state = (s.line m).state := fun m => by rw [line_unpairLines s hne]
  rw [hstate] at ha ⊢
  rw [partner_unpairLines s hne] at hl
  split at hl
  · cases hl
  · exact h.2.1 l p hl ha

/-- An accepted CONFIG_LANE leaves its lane OFF without lines, or IDLE with its rest set applied (R13, R31, R34). -/
theorem linesSound_configure {s : State} {n : LaneNo} {c : LaneConfig} (h : LinesSound s) : LinesSound (s.configure n c) := by
  obtain ⟨hp, hap, hu, hr⟩ := h
  have hactive : ∀ l, ((s.configure n c).line l).state = .active → (s.line l).state = .active := by
    intro l hl
    rw [line_configure] at hl
    split at hl
    · have := active_of_applied_active hl
      split at this
      · exact this
      · cases this
    · split at hl
      · cases hl
      · exact hl
  refine ⟨fun l p => ?_, fun l p hl ha hpa => ?_, fun l hl => ?_, fun l m hl => ?_⟩
  · simpa only [partner_configure] using hp l p
  · rw [partner_configure] at hl
    exact hap l p hl (hactive l ha) (hactive p hpa)
  · rw [line_configure] at hl ⊢
    split at hl
    · cases hl
    · next hin =>
      rw [if_neg hin]
      split
      · rfl
      · next ho => rw [if_neg ho] at hl; exact hu l hl
  · rw [owner_configure] at hl
    by_cases hin : lineIn c.lines l = true
    · rw [if_pos hin] at hl
      cases hl
      have hz : c.lines ≠ 0 := fun e => by rw [e, lineIn_empty] at hin; cases hin
      rw [lane_configure_self, if_neg hz, line_configure, if_pos hin]
      have hc := commanded_applied s.now (lineIn c.restSet l) (if (s.line l).owner = some n then (s.line l).state else .inactive)
      exact ⟨by simp, fun _ => ⟨fun h1 => hc ▸ h1, fun h1 => Or.inl (hc.trans h1)⟩, by simp⟩
    · rw [if_neg hin] at hl
      by_cases ho : (s.line l).owner = some n
      · rw [if_pos ho] at hl; cases hl
      · rw [if_neg ho] at hl
        have hm : m ≠ n := fun e => ho (e ▸ hl)
        rw [lane_configure_ne s c hm, line_configure, if_neg hin, if_neg ho]
        have hset : (s.configure n c).setOff = s.setOff := by rw [configure_eq]
        simpa only [blockStands, hset] using hr l m hl

theorem linesSound_clearFault {s : State} {n : LaneNo} (h : LinesSound s) : LinesSound (s.clearSafe n) := by
  obtain ⟨hp, hap, hu, hr⟩ := h
  have hactive : ∀ l, ((s.clearSafe n).line l).state = .active → (s.line l).state = .active := by
    intro l hl
    rw [line_clearSafe] at hl
    split at hl
    · split at hl <;> cases hl
    · exact hl
  refine ⟨fun l p => ?_, fun l p hl ha hpa => ?_, fun l hl => ?_, fun l m hl => ?_⟩
  · simpa only [partner_clearSafe] using hp l p
  · rw [partner_clearSafe] at hl
    exact hap l p hl (hactive l ha) (hactive p hpa)
  · rw [owner_clearSafe] at hl
    rw [line_clearSafe, if_neg (by rw [hl]; simp)]
    exact hu l hl
  · rw [owner_clearSafe] at hl
    by_cases hm : m = n
    · subst hm
      rw [lane_clearSafe_self, line_clearSafe, if_pos hl]
      refine ⟨by simp, fun _ => ?_, by simp⟩
      by_cases hin : lineIn (s.lane m).config.restSet l = true
      · simp [hin, LineState.commanded]
      · simp [hin, LineState.commanded]
    · rw [lane_clearSafe_ne s hm, line_clearSafe, if_neg (by rw [hl]; exact fun e => hm (Option.some.inj e))]
      exact hr l m hl

/-- A line that is PENDING comes to another state, and more may be set off: what there is to check is the pair, and what the state of the
owner says of that line. -/
theorem linesSound_leavesPending {s t : State} {l : LineNo} {n : LaneNo} {a : Nat} {st : LineState} (hpend : (s.line l).state = .pending a)
    (ho : (s.line l).owner = some n) (hline : ∀ m, t.line m = if m = l then { s.line l with state := st } else s.line m)
    (hlane : ∀ m, t.lane m = s.lane m) (hstands : ∀ m, blockStands s m → blockStands t m)
    (hpair : st = .active → ∀ p, s.partner l = some p → (s.line p).state ≠ .active)
    (hcom : LineState.commanded st = true ∨ blockStands t n) (h : LinesSound s) : LinesSound t := by
  obtain ⟨hp, hap, hu, hr⟩ := h
  have howner : ∀ m, (t.line m).owner = (s.line m).owner := by
    intro m; rw [hline m]; split
    · next hm => rw [hm]
    · rfl
  have hpart : ∀ m, t.partner m = s.partner m := by
    intro m; rw [State.partner, hline m]; split
    · next hm => rw [hm]; rfl
    · rfl
  refine ⟨fun m p => ?_, fun m p hm ha hpa => ?_, fun m hm => ?_, fun m k hm => ?_⟩
  · simpa only [hpart] using hp m p
  · rw [hpart] at hm
    obtain ⟨hne, hback⟩ := hp m p hm
    rw [hline] at ha hpa
    by_cases hml : m = l
    · rw [if_pos hml] at ha
      rw [if_neg (fun e => hne (e.trans hml.symm))] at hpa
      exact hpair ha p (hml ▸ hm) hpa
    · rw [if_neg hml] at ha
      by_cases hpl : p = l
      · rw [if_pos hpl] at hpa
        exact hpair hpa m (hpl ▸ hback) ha
      · rw [if_neg hpl] at hpa
        exact hap m p hm ha hpa
  · rw [howner] at hm
    have hml : m ≠ l := fun e => by rw [e, ho] at hm; cases hm
    rw [hline, if_neg hml]
    exact hu m hm
  · rw [howner] at hm
    obtain ⟨hoff, hrest, hsafe⟩ := hr m k hm
    rw [hlane]
    by_cases hml : m = l
    · subst hml
      have hk : k = n := Option.some.inj (hm.symm.trans ho)
      subst hk
      rw [hline, if_pos rfl]
      refine ⟨hoff, fun hs => ⟨fun _ => (hrest hs).1 (by rw [hpend]; rfl), fun _ => hcom⟩, fun hs => ?_⟩
      have := hsafe hs
      rw [hpend] at this
      exact absurd this pending_ne_safeLevel
    · rw [hline, if_neg hml]
      exact ⟨hoff, fun hs => ⟨(hrest hs).1, fun hin => ((hrest hs).2 hin).imp_right (hstands k)⟩, hsafe⟩

theorem linesSound_withheld {s : State} {l p : LineNo} {n : LaneNo} (hd : s.guardDue l = true) (ho : (s.line l).owner = some n)
    (h : LinesSound s) : LinesSound ((s.updLine l fun r => { r with state := .inactive }).sets [.safe n (.interlock l p)]) := by
  obtain ⟨a, m, hpend, -, -⟩ := (guardDue_iff s l).1 hd
  refine linesSound_leavesPending (st := .inactive) hpend ho (fun m => ?_) (fun _ => rfl) ?_ (fun e => by cases e) (Or.inr ⟨l, p, ?_⟩) h
  · rw [line_sets, line_updLine]
  · rintro m ⟨x, y, hxy⟩
    exact ⟨x, y, List.mem_append_left _ hxy⟩
  · exact List.mem_append_right _ (List.mem_singleton.2 rfl)

theorem linesSound_activates {s : State} {l : LineNo} (hd : s.guardDue l = true) (hn : s.activePartner l = none) (h : LinesSound s) :
    LinesSound (s.updLine l fun r => { r with state := .active }) := by
  obtain ⟨a, m, hpend, ho, -⟩ := (guardDue_iff s l).1 hd
  exact linesSound_leavesPending hpend ho (fun m => line_updLine s l m _) (fun _ => rfl) (fun _ hb => hb)
    (fun _ => (activePartner_none_iff s l).1 hn) (Or.inl rfl) h

theorem linesSound_of_reset {s : State} (hl : ∀ l, s.line l = LineRec.reset) : LinesSound s := by
  have hp : ∀ l, s.partner l = none := fun l => by rw [State.partner, hl l]; rfl
  refine ⟨fun l p h => ?_, fun l p h => ?_, fun l _ => by rw [hl]; rfl, fun l n h => ?_⟩
  · rw [hp] at h; cases h
  · rw [hp] at h; cases h
  · rw [hl] at h; cases h

theorem linesSound_kept : Kept LinesSound where
  aside a h := linesSound_aside a h
  turn a h := linesSound_move a.toLaneMove (fun _ => rfl) (fun _ => rfl) (fun _ _ ⟨x, y, hxy⟩ => ⟨x, y, a.stands _ hxy⟩) h
  safeTaken hd h := linesSound_safeTaken hd h
  configLine p v ho h := linesSound_configLine p v ho h
  setPair hxy hx hy hqx hqy hrest h := linesSound_setPair hxy hx hy hqx hqy hrest h
  clearPair hxy h := linesSound_clearPair hxy h
  configure _ _ h := linesSound_configure h
  clearFault _ _ h := linesSound_clearFault h
  withheld hd _ ho h := linesSound_withheld hd ho h
  activates hd hn h := linesSound_activates hd hn h
  reinit {s} _ := linesSound_of_reset (line_reinit s)
  pinReset now pending choices draws := linesSound_of_reset (line_pinReset now pending choices draws)

/-! ### Safe hold (chapter 8) -/

/-- FAULT_N follows the lanes when no lane enters or leaves SAFE. -/
theorem someSafe_congr {s t : State} (h : ∀ n, (t.lane n).state = .safe ↔ (s.lane n).state = .safe) : t.someSafe = s.someSafe := by
  rw [Bool.eq_iff_iff, someSafe_iff, someSafe_iff]
  exact exists_congr h

/-- One event of lane n, out of s or out of s with other events in flight: safe hold stays sound when each kill assertion in flight still
stands, but one for lane n if it has done its work. -/
theorem safeHoldSound_turn {n : LaneNo} {s : State} {t : State} {standing : List SetOff} (a : LaneTurn n { s with setOff := standing } t)
    (hk : ∀ m, SetOff.safe m .kill ∈ s.setOff → SetOff.safe m .kill ∈ t.setOff ∨ (t.lane m).state = .safe ∨ (s.lane m).state = .off)
    (h : SafeHoldSound s) : SafeHoldSound t := by
  obtain ⟨hempty, hoff, hkill, hfault, hbare⟩ := h
  have hcfg : ∀ m, (t.lane m).config = (s.lane m).config := a.config
  have hlane : ∀ m, m ≠ n → t.lane m = s.lane m := a.lane
  have hstay : ∀ m, (s.lane m).state = .safe → (t.lane m).state = .safe := by
    intro m hs
    by_cases hm : m = n
    · subst hm
      exact (a.held hs (hempty m hs)).1
    · rw [hlane m hm]; exact hs
  refine ⟨fun m hs => ?_, fun m hs => ?_, fun ha m hl => ?_, ?_, fun hp => ?_⟩
  · by_cases hm : m = n
    · subst hm
      cases a.outcome with
      | stays st bare _ _ =>
        have hss : (s.lane m).state = .safe := by
          rcases st with st | ⟨-, st⟩
          · exact st.trans hs
          · rw [hs] at st; simp [LaneState.atRest] at st
        exact bare hss (hempty m hss)
      | plays st _ => rw [hs] at st; cases st
      | rests st _ _ => rw [hs] at st; simp [LaneState.atRest] at st
      | holds _ bare _ _ => exact bare
    · rw [hlane m hm] at hs ⊢
      exact hempty m hs
  · rw [hcfg]
    by_cases hm : m = n
    · subst hm
      cases a.outcome with
      | stays st _ _ _ =>
        rcases st with st | ⟨-, st⟩
        · exact hoff m (st.trans hs)
        · rw [hs] at st; simp [LaneState.atRest] at st
      | plays st _ => rw [hs] at st; cases st
      | rests st _ _ => rw [hs] at st; simp [LaneState.atRest] at st
      | holds st _ _ _ => rw [hs] at st; cases st
    · rw [hlane m hm] at hs
      exact hoff m hs
  · rw [a.untouched.kill] at ha
    rw [hcfg] at hl
    rcases hkill ha m hl with hs | hs
    · exact Or.inl (hstay m hs)
    · rcases hk m hs with hs | hs | hs
      · exact Or.inr hs
      · exact Or.inl hs
      · exact absurd (hoff m hs) hl
  · have hkept : t.faultN = s.faultN → ((t.lane n).state = .safe → (s.lane n).state = .safe) → t.faultN = t.someSafe := by
      intro hf hn
      rw [hf, hfault]
      refine (someSafe_congr fun m => ⟨fun hs => ?_, hstay m⟩).symm
      by_cases hm : m = n
      · subst hm; exact hn hs
      · rw [hlane m hm] at hs; exact hs
    cases a.outcome with
    | stays st _ _ f =>
      refine hkept f fun hs => ?_
      rcases st with st | ⟨-, st⟩
      · exact st.trans hs
      · rw [hs] at st; simp [LaneState.atRest] at st
    | plays st f => exact hkept f fun hs => by rw [hs] at st; cases st
    | rests st _ f => exact hkept f fun hs => by rw [hs] at st; simp [LaneState.atRest] at st
    | holds st _ _ f => exact f.trans ((someSafe_iff t).2 ⟨n, st⟩).symm
  · rw [a.untouched.phase] at hp
    obtain ⟨hx, hl⟩ := hbare hp
    exact ⟨a.untouched.proc.trans hx, fun m => by rw [hcfg]; exact hl m⟩

theorem safeHoldSound_aside {s t : State} (a : Aside s t) (h : SafeHoldSound s) : SafeHoldSound t := by
  obtain ⟨hempty, hoff, hkill, hfault, hbare⟩ := h
  refine ⟨fun m => ?_, fun m => ?_, fun ha m hl => ?_, ?_, fun hp => ?_⟩
  · rw [a.lane]; exact hempty m
  · rw [a.lane]; exact hoff m
  · rw [a.lane] at hl ⊢
    rcases a.killed ha with ha | hp | hto
    · exact (hkill ha m hl).imp_right (a.stands m _)
    · exact absurd ((hbare (a.started hp).1).2 m) hl
    · by_cases hs : (s.lane m).state = .safe
      · exact Or.inl hs
      · exact Or.inr (hto m hl hs)
  · rw [FaultShown, a.fault, hfault]
    exact (someSafe_congr fun m => by rw [a.lane]).symm
  · obtain ⟨hs, hx⟩ := a.started hp
    obtain ⟨hi, hl⟩ := hbare hs
    exact ⟨hx hi, fun m => by rw [a.lane]; exact hl m⟩

theorem safeHoldSound_safeTaken {s : State} {n : LaneNo} {c : SafeCause} {standing : List SetOff}
    (hd : ∀ d ∈ s.setOff, d ≠ .safe n c → d ∈ standing) (h : SafeHoldSound s) :
    SafeHoldSound (State.enterSafe { s with setOff := standing } n c) := by
  have a := laneTurn_enterSafe { s with setOff := standing } n c
  refine safeHoldSound_turn a (fun m hm => ?_) h
  by_cases hmn : m = n
  · subst hmn
    exact Or.inr ((enterSafe_state { s with setOff := standing } m c).imp_right fun hs => hs.1)
  · exact Or.inl (a.stands _ (hd _ hm (by simp [hmn])))

/-- Lines change, and more may be set off: safe hold is of the lanes. -/
theorem safeHoldSound_lines {s t : State} (hlane : t.lanes = s.lanes) (hf : t.faultN = s.faultN) (hk : t.kill = s.kill)
    (hp : t.phase = s.phase) (hx : t.proc = s.proc) (hs : ∀ e ∈ s.setOff, e ∈ t.setOff) (h : SafeHoldSound s) : SafeHoldSound t := by
  have hl : ∀ m, t.lane m = s.lane m := fun m => by simp only [State.lane, hlane]
  obtain ⟨hempty, hoff, hkill, hfault, hbare⟩ := h
  refine ⟨fun m => ?_, fun m => ?_, fun ha m => ?_, ?_, ?_⟩
  · rw [hl]; exact hempty m
  · rw [hl]; exact hoff m
  · rw [hl]
    rw [hk] at ha
    exact fun hm => (hkill ha m hm).imp_right (hs _)
  · rw [FaultShown, hf, hfault]
    exact (someSafe_congr fun m => by rw [hl]).symm
  · rw [BareUntilStarted, hp, hx]
    exact fun hne => ⟨(hbare hne).1, fun m => by rw [hl]; exact (hbare hne).2 m⟩

theorem safeHoldSound_configure {s : State} {n : LaneNo} {raw : RawConfig} {c : LaneConfig} (hrun : s.proc ≠ .idle)
    (hok : configLaneCheck n raw s = .ok c) (h : SafeHoldSound s) : SafeHoldSound (s.configure n c) := by
  obtain ⟨hempty, hoff, hkill, hfault, hbare⟩ := h
  obtain ⟨hst, -, -, -, -, -, hka⟩ := configLaneCheck_ok hok
  have hstate : ((s.configure n c).lane n).state ≠ .safe := by
    rw [lane_configure_self]
    dsimp only
    split <;> simp
  have heq := configure_eq s n c
  have hk : (s.configure n c).kill = s.kill := by rw [heq]
  have hset : (s.configure n c).setOff = s.setOff := by rw [heq]
  have hf : (s.configure n c).faultN = s.faultN := by rw [heq]
  have hp : (s.configure n c).phase = s.phase := by rw [heq]
  refine ⟨fun m hs => ?_, fun m hs => ?_, fun ha m hl => ?_, ?_, fun hne => ?_⟩
  · by_cases hm : m = n
    · subst hm; exact absurd hs hstate
    · rw [lane_configure_ne s c hm] at hs ⊢
      exact hempty m hs
  · by_cases hm : m = n
    · subst hm
      rw [lane_configure_self] at hs ⊢
      dsimp only at hs ⊢
      by_contra hz
      rw [if_neg hz] at hs
      cases hs
    · rw [lane_configure_ne s c hm] at hs ⊢
      exact hoff m hs
  · rw [hk] at ha
    rw [hset]
    by_cases hm : m = n
    · subst hm
      rw [lane_configure_self] at hl
      exact absurd (hka ha) hl
    · rw [lane_configure_ne s c hm] at hl ⊢
      exact hkill ha m hl
  · rw [FaultShown, hf, hfault]
    refine (someSafe_congr fun m => ?_).symm
    by_cases hm : m = n
    · subst hm
      refine ⟨fun hs => absurd hs hstate, fun hs => ?_⟩
      rw [hs] at hst
      simp at hst
    · rw [lane_configure_ne s c hm]
  · rw [hp] at hne
    exact absurd (hbare hne).1 hrun

theorem safeHoldSound_clearFault {s : State} {n : LaneNo} (hk : s.kill.asserted = false) (h : SafeHoldSound s) :
    SafeHoldSound (s.clearSafe n) := by
  obtain ⟨hempty, hoff, -, -, hbare⟩ := h
  refine ⟨fun m hs => ?_, fun m hs => ?_, fun ha => ?_, faultN_clearSafe s n, fun hne => ?_⟩
  · by_cases hm : m = n
    · subst hm; rw [lane_clearSafe_self] at hs; cases hs
    · rw [lane_clearSafe_ne s hm] at hs ⊢
      exact hempty m hs
  · by_cases hm : m = n
    · subst hm; rw [lane_clearSafe_self] at hs; cases hs
    · rw [lane_clearSafe_ne s hm] at hs ⊢
      exact hoff m hs
  · have : s.kill.asserted = true := ha
    rw [hk] at this; cases this
  · obtain ⟨hi, hl⟩ := hbare hne
    exact ⟨hi, fun m => by rw [config_clearSafe]; exact hl m⟩

/-- A part whose lanes stand at their reset values, with FAULT_N deasserted. -/
theorem safeHoldSound_of_reset {s : State} (hn : ∀ n, s.lane n = LaneRec.reset) (hf : s.faultN = false)
    (hx : s.phase ≠ .started → s.proc = .idle) : SafeHoldSound s := by
  refine ⟨fun n hs => ?_, fun n _ => by rw [hn]; rfl, fun _ n hl => ?_, ?_, fun hne => ⟨hx hne, fun n => by rw [hn]; rfl⟩⟩
  · rw [hn] at hs; cases hs
  · rw [hn] at hl; exact absurd rfl hl
  · rw [FaultShown, hf, eq_comm, ← Bool.not_eq_true, someSafe_iff]
    rintro ⟨n, hs⟩
    rw [hn] at hs; cases hs

theorem safeHoldSound_kept : Kept SafeHoldSound where
  aside a h := safeHoldSound_aside a h
  turn {_ s _} a h := safeHoldSound_turn (s := s) (standing := s.setOff) a (fun _ hm => Or.inl (a.stands _ hm)) h
  safeTaken hd h := safeHoldSound_safeTaken hd h
  configLine {s _} _ _ _ h := safeHoldSound_lines (s := s) rfl rfl rfl rfl rfl (fun _ he => he) h
  setPair {s _ _} _ _ _ _ _ _ h := safeHoldSound_lines (s := s) rfl rfl rfl rfl rfl (fun _ he => he) h
  clearPair {s _ _} _ h := safeHoldSound_lines (s := s) rfl rfl rfl rfl rfl (fun _ he => he) h
  configure hrun hok h := safeHoldSound_configure hrun hok h
  clearFault _ hk h := safeHoldSound_clearFault hk h
  withheld {s _ _ _} _ _ _ h := safeHoldSound_lines (s := s) rfl rfl rfl rfl rfl (fun _ he => List.mem_append_left _ he) h
  activates {s _} _ _ h := safeHoldSound_lines (s := s) rfl rfl rfl rfl rfl (fun _ he => he) h
  reinit {s} h := safeHoldSound_of_reset (lane_reinit s) rfl fun hne => (h.2.2.2.2 hne).1
  pinReset now pending choices draws := safeHoldSound_of_reset (lane_pinReset now pending choices draws) rfl fun _ => rfl

end Sys2Proof.Machine

namespace Sys2Proof.Proofs

open Sys2Proof.Machine

/-- Settles O54: the induction of `Kept`, for the line table. -/
theorem stepKeepsLinesSound : Obligations.StepKeepsLinesSound := fun _ _ h hs => linesSound_kept.step h hs

/-- Settles O55: the induction of `Kept`, for the configuration records. -/
theorem stepKeepsConfigSound : Obligations.StepKeepsConfigSound := fun _ _ h hs => configSound_kept.step h hs

/-- Settles O56: the induction of `Kept`, for safe hold. -/
theorem stepKeepsSafeHoldSound : Obligations.StepKeepsSafeHoldSound := fun _ _ h hs => safeHoldSound_kept.step h hs

/-- Settles O59: the induction of `Kept`, for the times. -/
theorem stepKeepsTimesPast : Obligations.StepKeepsTimesPast := fun _ _ h hs => timesPast_kept.step h hs

end Sys2Proof.Proofs

/-! PROOFS. The codes of the operands, each read once; a command's event while its frame is executed; and the commands of the line table, the guard
expiry, CLEAR_FAULT and the output pins (chapters 1 and 8). -/

namespace Sys2Proof.Machine

open Sys2Proof.Safety Sys2Proof.Spec

/-! ### Codes (Table 12-1) -/

theorem byte_ne_of_lt {b k : Byte} (h : k.toNat < b.toNat) : b ≠ k := fun e => absurd (e ▸ h) (lt_irrefl _)

theorem byte_zero_one_or (b : Byte) : b = 0 ∨ b = 1 ∨ 1 < b.toNat := by
  bv_omega

theorem lineOfCode_val {b : Byte} {l : LineNo} (h : b.toNat = l.val) : lineOfCode b = some l := by
  have hl : b.toNat < 24 := h ▸ l.isLt
  rw [lineOfCode, dif_pos hl]
  exact congrArg some (Fin.ext h)

theorem lineOfCode_none {b : Byte} (h : 23 < b.toNat) : lineOfCode b = none := by
  rw [lineOfCode, dif_neg (by omega)]

theorem slotOfCode_val {b : Byte} {i : SlotNo} (h : b.toNat = i.val) : slotOfCode b = some i := by
  have hi : b.toNat < 32 := h ▸ i.isLt
  rw [slotOfCode, dif_pos hi]
  exact congrArg some (Fin.ext h)

theorem slotOfCode_none {b : Byte} (h : 31 < b.toNat) : slotOfCode b = none := by
  rw [slotOfCode, dif_neg (by omega)]

/-- A reading of two codes, 0 and 1, reads no other. -/
theorem two_codes_none {α : Type} {x y : α} {b : Byte} :
    (if b = 0 then some x else if b = 1 then some y else none) = none ↔ 1 < b.toNat := by
  rcases byte_zero_one_or b with rfl | rfl | h
  · simp
  · simp
  · have h0 : b ≠ 0 := byte_ne_of_lt (Nat.lt_trans Nat.zero_lt_one h)
    have h1 : b ≠ 1 := byte_ne_of_lt h
    rw [if_neg h0, if_neg h1]
    exact iff_of_true rfl h

theorem polarity_none_iff {b : Byte} : Polarity.ofCode b = none ↔ 1 < b.toNat := two_codes_none
theorem safeLevel_none_iff {b : Byte} : SafeLevel.ofCode b = none ↔ 1 < b.toNat := two_codes_none
@[simp] theorem polarity_ofCode_code (p : Polarity) : Polarity.ofCode p.code = some p := by
  cases p <;> rfl

@[simp] theorem safeLevel_ofCode_code (v : SafeLevel) : SafeLevel.ofCode v.code = some v := by
  cases v <;> rfl

/-- The byte that names a lane, an input, or nothing with 0xFF (R174). -/
def codeOf (x : Option (Fin 4)) : Nat :=
  match x with
  | some i => i.val
  | none => 255

theorem triggerOfCode_code {b : Byte} {x : Option TrigNo} (h : b.toNat = codeOf x) : triggerOfCode b = some x := by
  cases x with
  | some i =>
    have hi : b.toNat < 4 := h ▸ i.isLt
    rw [triggerOfCode, dif_pos hi]
    exact congrArg (fun k => some (some k)) (Fin.ext h)
  | none =>
    have h : b.toNat = 255 := h
    have hb : b = noneCode := BitVec.eq_of_toNat_eq h
    rw [triggerOfCode, dif_neg (by omega), if_pos hb]

/-- A leader field is read as a trigger field is. -/
theorem leaderOfCode_code {b : Byte} {x : Option LaneNo} (h : b.toNat = codeOf x) : leaderOfCode b = some x := triggerOfCode_code h

/-! ### A command's event -/

/-- The event of a command whose frame is being executed: its effect, with its answer kept for the reply (R159). -/
theorem command_of_awaited {s : State} {x : Execution} {c : Instr} (h : Awaited s x c) (effect : State → State × Answer) :
    s.command c effect = .next (answered (effect s).1 x (effect s).2) := by
  obtain ⟨hp, ha, hd⟩ := h
  refine command_awaited hp ?_ effect
  simp [Execution.awaits, Frame.carries, ha, hd]

/-- The same, for an effect that is known. -/
theorem command_answers {s t : State} {x : Execution} {c : Instr} {a : Answer} {effect : State → State × Answer} (h : Awaited s x c)
    (he : effect s = (t, a)) : s.command c effect = .next (answered t x a) := by
  rw [command_of_awaited h, he]

/-! ### The line table (section 1.6) -/

theorem configLineEffect_badValue {s : State} {line polarity safeLevel : Byte}
    (h : 23 < line.toNat ∨ 1 < polarity.toNat ∨ 1 < safeLevel.toNat) :
    configLineEffect line polarity safeLevel s = (s, ⟨.badValue, .none, none⟩) := by
  unfold configLineEffect
  split
  · next hl hp hv =>
    rcases h with h | h | h
    · rw [lineOfCode_none h] at hl; cases hl
    · rw [polarity_none_iff.2 h] at hp; cases hp
    · rw [safeLevel_none_iff.2 h] at hv; cases hv
  · rfl

theorem configLineEffect_eq {s : State} {line : Byte} {l : LineNo} (p : Polarity) (v : SafeLevel) (h : line.toNat = l.val) :
    configLineEffect line p.code v.code s =
      if (s.line l).owner.isSome then (s, ⟨.wrongState, .none, none⟩)
      else (s.updLine l fun r => { r with polarity := p, safeLevel := v }, ⟨.ok, .none, none⟩) := by
  simp only [configLineEffect, lineOfCode_val h, polarity_ofCode_code, safeLevel_ofCode_code]
  rfl

/-- A lane that owns one of two lines and is busy. -/
theorem ownerQuiet_false_of {s : State} {k l : LineNo} {n : LaneNo} (ho : (s.line k).owner = some n ∨ (s.line l).owner = some n)
    (hb : ((s.lane n).state ≠ .off ∧ (s.lane n).state ≠ .idle ∧ (s.lane n).state ≠ .safe) ∨ (s.lane n).queue ≠ []) :
    s.ownerQuiet k = false ∨ s.ownerQuiet l = false := by
  have hno : ∀ j, (s.line j).owner = some n → s.ownerQuiet j = false := by
    intro j hj
    refine Bool.eq_false_iff.2 fun hq => ?_
    obtain ⟨hst, he⟩ := (ownerQuiet_iff s j).1 hq n hj
    rcases hb with ⟨h1, h2, h3⟩ | hb
    · rcases hst with h | h | h
      · exact h1 h
      · exact h2 h
      · exact h3 h
    · exact hb he
  exact ho.imp (hno k) (hno l)

/-- Each lane that owns one of two lines is quiet. -/
theorem ownerQuiet_of {s : State} {k l : LineNo} (h : ∀ n, (s.line k).owner = some n ∨ (s.line l).owner = some n →
      ((s.lane n).state = .off ∨ (s.lane n).state = .idle ∨ (s.lane n).state = .safe) ∧ (s.lane n).queue = []) :
    s.ownerQuiet k = true ∧ s.ownerQuiet l = true :=
  ⟨(ownerQuiet_iff s k).2 fun n hn => h n (Or.inl hn), (ownerQuiet_iff s l).2 fun n hn => h n (Or.inr hn)⟩

theorem setPairEffect_badValue {s : State} {a b : Byte} (h : 23 < a.toNat ∨ 23 < b.toNat ∨ a = b) :
    setPairEffect a b s = (s, ⟨.badValue, .none, none⟩) := by
  unfold setPairEffect
  split
  · next x y hx hy =>
    rcases h with h | h | rfl
    · rw [lineOfCode_none h] at hx; cases hx
    · rw [lineOfCode_none h] at hy; cases hy
    · rw [hx] at hy
      rw [if_pos (Option.some.inj hy)]
      rfl
  · rfl

/-- SET_PAIR of two lines: checks 2 to 4 in their order (R15). -/
theorem setPairEffect_eq {s : State} {a b : Byte} {k l : LineNo} (ha : a.toNat = k.val) (hb : b.toNat = l.val) (hne : k ≠ l) :
    setPairEffect a b s =
      if (s.partner k).isSome ∨ (s.partner l).isSome then (s, ⟨.lineTaken, .none, none⟩)
      else if s.ownerQuiet k = false ∨ s.ownerQuiet l = false then (s, ⟨.wrongState, .none, none⟩)
      else if s.inOwnRestSet k = true ∧ s.inOwnRestSet l = true then (s, ⟨.interlock, .none, none⟩)
      else (s.pairLines k l, ⟨.ok, .none, none⟩) := by
  simp only [setPairEffect, lineOfCode_val ha, lineOfCode_val hb, if_neg hne]
  rfl

theorem clearPairEffect_none {s : State} {a : Byte} (h : 23 < a.toNat) : clearPairEffect a s = (s, ⟨.badValue, .none, none⟩) := by
  simp only [clearPairEffect, lineOfCode_none h]
  rfl

theorem clearPairEffect_unpaired {s : State} {a : Byte} {k : LineNo} (h : a.toNat = k.val) (hk : s.partner k = none) :
    clearPairEffect a s = (s, ⟨.badValue, .none, none⟩) := by
  simp only [clearPairEffect, lineOfCode_val h, hk]
  rfl

/-- CLEAR_PAIR of a line with a partner: check 2 (R17). -/
theorem clearPairEffect_eq {s : State} {a : Byte} {k l : LineNo} (h : a.toNat = k.val) (hk : s.partner k = some l) :
    clearPairEffect a s =
      if s.ownerQuiet k = false ∨ s.ownerQuiet l = false then (s, ⟨.wrongState, .none, none⟩)
      else (s.unpairLines k l, ⟨.ok, .line l, none⟩) := by
  simp only [clearPairEffect, lineOfCode_val h, hk]
  rfl

end Sys2Proof.Machine

namespace Sys2Proof.Proofs

open Sys2Proof.Machine Sys2Proof.Safety Sys2Proof.Spec

/-- Settles O13, check by check. -/
theorem configLineChecksAndEffect : Obligations.ConfigLineChecksAndEffect := by
  intro s x line polarity safeLevel h
  refine ⟨fun hb => command_answers h (configLineEffect_badValue hb), ?_⟩
  rintro l p v hl rfl rfl
  refine ⟨fun ho => command_answers h ?_, fun ho => command_answers h ?_⟩
  · rw [configLineEffect_eq p v hl, if_pos (Option.isSome_iff_ne_none.2 ho)]
  · rw [configLineEffect_eq p v hl, ho]
    rfl

/-- Settles O14, check by check. -/
theorem setPairChecksAndEffect : Obligations.SetPairChecksAndEffect := by
  intro s x a b h
  refine ⟨fun hb => command_answers h (setPairEffect_badValue hb), fun k l ha hb hne => ?_⟩
  have heq := setPairEffect_eq (s := s) ha hb hne
  refine ⟨fun hp => command_answers h ?_, fun hk hl => ⟨?_, fun hquiet => ?_⟩⟩
  · rw [heq, if_pos (by simpa only [Option.isSome_iff_ne_none] using hp)]
  · rintro ⟨n, ho, hbusy⟩
    refine command_answers h ?_
    rw [heq, if_neg (by simp [hk, hl]), if_pos (ownerQuiet_false_of ho hbusy)]
  · obtain ⟨hqk, hql⟩ := ownerQuiet_of hquiet
    have hpast : setPairEffect a b s = if s.inOwnRestSet k = true ∧ s.inOwnRestSet l = true then (s, ⟨.interlock, .none, none⟩)
        else (s.pairLines k l, ⟨.ok, .none, none⟩) := by
      rw [heq, if_neg (by simp [hk, hl]), if_neg (by simp [hqk, hql])]
    refine ⟨?_, fun hrest => command_answers h ?_⟩
    · rintro ⟨n, m, hn, hm, hkr, hlr⟩
      refine command_answers h ?_
      rw [hpast, if_pos ⟨(inOwnRestSet_iff s k).2 ⟨n, hn, hkr⟩, (inOwnRestSet_iff s l).2 ⟨m, hm, hlr⟩⟩]
    · rw [hpast, if_neg, State.pairLines]
      rintro ⟨hk', hl'⟩
      obtain ⟨n, hn, hkr⟩ := (inOwnRestSet_iff s k).1 hk'
      obtain ⟨m, hm, hlr⟩ := (inOwnRestSet_iff s l).1 hl'
      rcases hrest n m hn hm with hf | hf
      · rw [hkr] at hf; cases hf
      · rw [hlr] at hf; cases hf

/-- Settles O15, check by check. -/
theorem clearPairChecksAndEffect : Obligations.ClearPairChecksAndEffect := by
  intro s x a h
  refine ⟨fun ha => command_answers h (clearPairEffect_none ha), fun k ha => ⟨fun hk => command_answers h (clearPairEffect_unpaired ha hk),
    fun l hk => ⟨?_, fun hquiet => command_answers h ?_⟩⟩⟩
  · rintro ⟨n, ho, hbusy⟩
    refine command_answers h ?_
    rw [clearPairEffect_eq ha hk, if_pos (ownerQuiet_false_of ho hbusy)]
  · obtain ⟨hqk, hql⟩ := ownerQuiet_of hquiet
    rw [clearPairEffect_eq ha hk, if_neg (by simp [hqk, hql]), State.unpairLines]

/-- Settles O37, by whether the partner is ACTIVE. -/
theorem guardExpiryActivatesOrWithholds : Obligations.GuardExpiryActivatesOrWithholds := by
  intro s l n since hp ho hn
  have hd : s.guardDue l = true := (guardDue_iff s l).2 ⟨since, n, hp, ho, hn⟩
  have hexec : exec (.guardExpiry l) s = execGuardExpiry l s := rfl
  refine ⟨fun h => ?_, fun p hpart hact => ?_⟩
  · rw [hexec, execGuardExpiry, if_pos hd, (activePartner_none_iff s l).2 h]
  · rw [hexec, execGuardExpiry, if_pos hd, (activePartner_some_iff s l p).2 ⟨hpart, hact⟩, ho]
    rfl

/-- Settles O41, check by check. -/
theorem clearFaultReleasesALane : Obligations.ClearFaultReleasesALane := by
  intro s x n h
  refine ⟨fun hs => command_answers h ?_, fun hs hk => command_answers h ?_, fun hs hk => ⟨s.clearSafe n, command_answers h ?_, clearSafe_eq s n,
    lane_clearSafe_self s n, fun m hm => lane_clearSafe_ne s hm, line_clearSafe s n, ?_⟩⟩
  · rw [clearFaultEffect, if_pos hs]; rfl
  · rw [clearFaultEffect, if_neg (by simp [hs]), if_pos hk, hs]; rfl
  · rw [clearFaultEffect, if_neg (by simp [hs]), if_neg (by simp [hk])]; rfl
  · rw [faultN_clearSafe, someSafe_iff]
    refine exists_congr fun m => ?_
    by_cases hm : m = n
    · subst hm
      rw [lane_clearSafe_self]
      simp
    · rw [lane_clearSafe_ne s hm]
      simp [hm]

/-- Settles O43, pin by pin. -/
theorem outputPinsShowTheState : Obligations.OutputPinsShowTheState := by
  intro s l
  refine ⟨fun h => ?_, fun h => ?_, rfl, fun h => ?_, fun r h => ?_, fun h => ?_⟩
  · rw [State.linePin, if_pos ((isHeld_iff s).2 h)]
  · rw [State.linePin, if_neg (mt (isHeld_iff s).1 h), LineRec.pin]
    cases (s.line l).state <;> cases (s.line l).polarity <;> rfl
  · simp only [State.syncPin, h]
  · simp only [State.syncPin, h]
  · simp only [State.txd, h]

end Sys2Proof.Proofs

/-! PROOFS. CONFIG_LANE (R33 to R36): one accepted, and a policy byte that its checks let past. -/

namespace Sys2Proof.Machine

open Sys2Proof.Safety Sys2Proof.Spec

/-! ### The record that a CONFIG_LANE carries -/

theorem configOfRaw_eq {raw : RawConfig} {trigger : Option TrigNo} {edge : TriggerEdge} {leader : Option LaneNo} {endAction : EndAction}
    {timeoutAction : TimeoutAction} {policy : Policy} (ht : triggerOfCode raw.trigger = some trigger)
    (he : TriggerEdge.ofCode raw.edge = some edge) (hl : leaderOfCode raw.leader = some leader)
    (ha : EndAction.ofCode raw.endAction = some endAction) (ho : TimeoutAction.ofCode raw.timeoutAction = some timeoutAction)
    (hp : Policy.ofCode raw.policy = some policy) (hk : raw.tickExp.toNat ≤ 10) (hb : raw.blanking ≠ 0)
    (hr : ∀ l : LineNo, lineIn raw.restSet l = true → lineIn raw.lines l = true) :
    configOfRaw raw = some
      { lines := raw.lines, tickExp := raw.tickExp.toNat, guard := raw.guard.toNat, blanking := raw.blanking.toNat, trigger := trigger,
        edge := edge, leader := leader, endAction := endAction, timeoutAction := timeoutAction, policy := policy,
        restSet := raw.restSet } := by
  have hs := (lineSubset_iff _ _).2 hr
  simp only [configOfRaw, ht, he, hl, ha, ho, hp]
  exact if_pos ⟨hk, hb, hs⟩

/-- A leader that R27 allows: none, or another lane that has no leader, and lane n leads none. -/
theorem leaderInvalid_false_of {s : State} {n : LaneNo} {leader : Option LaneNo} (h : ∀ m : LaneNo, leader = some m →
      m ≠ n ∧ (s.lane m).config.leader = none ∧ ∀ q, q ≠ n → (s.lane q).config.leader ≠ some n) : s.leaderInvalid n leader = false := by
  cases leader with
  | none => exact leaderInvalid_none s n
  | some m =>
    obtain ⟨hne, hnone, hled⟩ := h m rfl
    refine Bool.eq_false_iff.2 fun hbad => ?_
    rcases (leaderInvalid_some_iff s n m).1 hbad with h1 | h1 | ⟨q, hq, hqn⟩
    · exact hne h1
    · exact h1 hnone
    · exact hled q hq hqn

/-- The seven checks of R33 passed. -/
theorem configLaneCheck_eq {s : State} {n : LaneNo} {raw : RawConfig} {c : LaneConfig}
    (hst : (s.lane n).state = .off ∨ (s.lane n).state = .idle) (hq : (s.lane n).queue = []) (hc : configOfRaw raw = some c)
    (ht : ∀ (l : LineNo) (m : LaneNo), lineIn c.lines l = true → (s.line l).owner = some m → m = n)
    (hp : ∀ l p : LineNo, lineIn c.restSet l = true → s.partner l = some p → lineIn c.restSet p = false)
    (hl : s.leaderInvalid n c.leader = false) (hk : s.kill.asserted = true → c.lines = 0) : configLaneCheck n raw s = .ok c := by
  have htaken : ¬ s.lineTaken n c.lines = true := fun h => by
    obtain ⟨l, m, hin, ho, hne⟩ := (lineTaken_iff s n c.lines).1 h
    exact hne (ht l m hin ho)
  have hstate : ¬ ((s.lane n).state ≠ .off ∧ (s.lane n).state ≠ .idle) := fun h => hst.elim h.1 h.2
  have hpair := (holdsPair_false_iff s.partner c.restSet).2 hp
  have hkill : ¬ (s.kill.asserted = true ∧ c.lines ≠ 0) := fun h => h.2 (hk h.1)
  rw [configLaneCheck, if_neg hstate, if_neg (not_not.2 hq), hc]
  simp only [if_neg htaken, hpair, hl, Bool.false_eq_true, if_false, if_neg hkill]

/-! ### A policy byte past the codes of Table 12-1 -/

/-- The record of a CONFIG_LANE of line 0 with every field in range but its policy, 3. -/
def policyThree : RawConfig :=
  { lines := 1, tickExp := 0, guard := 0, blanking := 1, trigger := 0xFF, edge := 0, leader := 0xFF, endAction := 0, timeoutAction := 0,
    policy := 3, restSet := 0 }

/-- The execution of the frame that carries that record for lane 0. -/
def policyThreeExecution : Execution :=
  { frame := ⟨0x09, 0, 0 :: policyThree.bytes⟩, answer := none, eventAt := 0, completeAt := 0 }

/-- The part after a reset, with that frame in execution. -/
def policyThreeState : State := { State.reset with proc := .executing policyThreeExecution }

theorem policyThree_awaited : Awaited policyThreeState policyThreeExecution (.configLane 0 policyThree) :=
  ⟨rfl, rfl, by decide +kernel⟩

/-- The reading of the policy byte takes every byte past 2 as NONE. -/
theorem policy_three_read : Policy.ofCode policyThree.policy = some .none := rfl

/-- What was answered is seen in the execution. -/
theorem answer_code_unique {s t : State} {x : Execution} {a b : Answer}
    (h : (.next (answered s x a) : Out) = .next (answered t x b)) : a.code = b.code := by
  have hproc : (answered s x a).proc = (answered t x b).proc := congrArg State.proc (Host.Outcome.next.inj h)
  simp only [answered, Proc.executing.injEq, Execution.mk.injEq, Option.some.injEq, true_and, and_true] at hproc
  rw [hproc]

theorem policyThree_answered_ok : (configLaneEffect 0 policyThree policyThreeState).2.code = .ok := by decide +kernel

end Sys2Proof.Machine

namespace Sys2Proof.Proofs

open Sys2Proof.Machine Sys2Proof.Safety Sys2Proof.Spec

/-- Refutes O16: `Policy.ofCode` reads every byte past 2 as policy NONE, since the `none` of its last branch is `Policy.none`, so that
CONFIG_LANE with policy 3 is accepted where check 3 has to refuse it with BAD_VALUE. -/
theorem not_configLaneChecksInOrder : ¬ Obligations.ConfigLaneChecksInOrder := by
  intro h
  have hchecks := (h policyThreeState policyThreeExecution 0 policyThree policyThree_awaited).1 (fun c hc => List.not_mem_nil hc)
  have hbad := ((hchecks.2 (Or.inl rfl)).2 rfl).1 (by right; right; right; right; right; right; left; decide)
  have hexec := command_of_awaited policyThree_awaited (configLaneEffect 0 policyThree)
  have hcode := answer_code_unique (hexec.symm.trans hbad)
  rw [policyThree_answered_ok] at hcode
  cases hcode

/-- Settles O17: the record is read from its bytes, the seven checks pass, and the acts of R34 are taken. -/
theorem configLaneAccepted : Obligations.ConfigLaneAccepted := by
  intro s x n raw trigger edge leader endAction timeoutAction policy h hcause hst hq hk hb ht he hl ha ho hp hrest htaken hpaired hlead hkill
  have hc := configOfRaw_eq (triggerOfCode_code (x := trigger) (ht.trans (by cases trigger <;> rfl)))
    (edge := edge) (by rw [he]; cases edge <;> rfl) (leaderOfCode_code (x := leader) (hl.trans (by cases leader <;> rfl)))
    (endAction := endAction) (by rw [ha]; cases endAction <;> rfl) (timeoutAction := timeoutAction) (by rw [ho]; cases timeoutAction <;> rfl)
    (policy := policy) (by rw [hp]; cases policy <;> rfl) hk hb hrest
  have hok := configLaneCheck_eq hst hq hc htaken hpaired (leaderInvalid_false_of hlead) hkill
  refine ⟨s.configure n _, command_answers h ?_, configure_eq s n _, lane_configure_self s n _, fun m hm => lane_configure_ne s _ hm,
    fun l => ?_⟩
  · rw [configLaneEffect, takeFirst_holds_of_none hcause, configureEffect, hok]
    simp only [lane_configure_self]
    rfl
  · rw [line_configure]
    simp only [patterned_eq_applied]

end Sys2Proof.Proofs

/-! PROOFS. The values at pin reset and after REINIT (R1, R70, R165, R166), and the scopes of GET_STATUS (R164). -/

namespace Sys2Proof.Machine

open Sys2Proof.Safety Sys2Proof.Spec

/-! ### Pin reset -/

/-- A line at its reset value is in no guard interval. -/
theorem guardDue_of_reset {s : State} {l : LineNo} (h : s.line l = LineRec.reset) : s.guardDue l = false := by
  rw [State.guardDue, h]
  rfl

theorem freeSpace_of_reset {s : State} (h : ∀ i, s.slot i = Slot.reset) : s.freeSpace = 512 := by
  simp only [State.freeSpace, State.reservedSteps, h]
  decide

theorem freeSlots_of_reset {s : State} (h : ∀ i, s.slot i = Slot.reset) : s.freeSlots = 32 := by
  simp only [State.freeSlots, h]
  decide

theorem linkSound_reset : LinkSound State.reset := by
  refine ⟨Nat.zero_le _, Nat.zero_le _, ?_, Nat.zero_le _, ?_, Nat.zero_le _, Nat.zero_le _⟩
  · exact iff_of_false Bool.false_ne_true (fun h => h rfl)
  · exact ⟨Nat.zero_le _, Nat.zero_le _, Nat.zero_le _, Nat.zero_le _, Nat.zero_le _, Nat.zero_le _⟩

/-- A lane at its reset value uses no slot. -/
theorem uses_reset (i : SlotNo) : uses i LaneRec.reset = 0 := rfl

theorem librarySound_reset : LibrarySound State.reset := by
  refine ⟨fun i => ?_, ?_, fun i => ?_, fun i h => ?_, fun n _ => ?_⟩
  · rw [slot_reset]
    exact ⟨rfl, rfl, rfl⟩
  · simp only [State.reservedSteps, slot_reset]
    decide
  · simp only [slot_reset, lane_reset, uses_reset]
    decide
  · rw [slot_reset] at h
    exact absurd h (lt_irrefl _)
  · rw [lane_reset]
    rfl

theorem shaped_reset : LaneRec.shaped LaneRec.reset :=
  ⟨iff_of_false Bool.false_ne_true Bool.false_ne_true, fun h => absurd h Bool.false_ne_true, fun _ => rfl, fun h => nomatch h⟩

theorem lanesSound_reset : LanesSound State.reset := by
  intro n
  rw [CursorWithin, lane_reset]
  exact ⟨shaped_reset, Nat.zero_le _, trivial, trivial⟩

theorem stepsLawful_reset : StepsLawful State.reset := by
  intro n
  rw [lane_reset]
  refine ⟨fun e he => absurd he List.not_mem_nil, fun c hc => ?_, fun r hr => ?_⟩
  · exact absurd hc (Option.some_ne_none c).symm
  · exact absurd hr (Option.some_ne_none r).symm

/-! ### REINIT -/

/-- What offering reports leaves the transmitter with depends on no event in flight. -/
theorem tx_offers_congr (rs : List Report) {s t : State} (htx : t.tx = s.tx) (hp : t.proc = s.proc) (hn : t.now = s.now)
    (hs : t.settings = s.settings) : (rs.foldl State.offer t).tx = (rs.foldl State.offer s).tx := by
  induction rs generalizing s t with
  | nil => exact htx
  | cons r rs ih =>
    refine ih (tx_offer_congr htx hp hn hs r) ?_ ?_ ?_
    · rw [offer_tx s r, offer_tx t r]; exact hp
    · rw [offer_tx s r, offer_tx t r]; exact hn
    · rw [offer_tx s r, offer_tx t r]; exact hs

theorem tx_offerAll (s : State) : s.offerAll.tx = (offered { s with setOff := [] } (inFlight s)).tx :=
  tx_offers_congr (inFlight s) rfl rfl rfl rfl

/-- What REINIT leaves of the outbound queue: the message in transmission, if there is one, and the replies of the rest (R156). -/
theorem transmitter_reinit (u : Transmitter) : u.reinit =
    { queue := (if u.sending = none then [] else u.queue.take 1)
        ++ (if u.sending = none then u.queue else u.queue.drop 1).filter Message.isReply,
      sending := u.sending, loss := 0 } := by
  obtain ⟨queue, sending, loss⟩ := u
  cases sending with
  | none => rfl
  | some t => cases queue <;> rfl

theorem sync_release (u : SyncUnit) (now : Nat) :
    u.release now = { u with drive := .idle, releasedAt := if u.drive = .idle then u.releasedAt else now } := by
  obtain ⟨level, adopted, since, drive, releasedAt⟩ := u
  cases drive <;> rfl

/-- The acts of REINIT, block by block; `keep` is any reading of what a reply is. -/
theorem reinitEffect_eq (s : State) {keep : Message → Bool} (hkeep : ∀ m, keep m = m.isReply) :
    let u := (offered { s with setOff := [] } (inFlight s)).tx
    reinitEffect s =
      ({ s with
         lines := Vector.replicate 24 LineRec.reset, faultN := false, lanes := Vector.replicate 4 LaneRec.reset,
         slots := Vector.replicate 32 Slot.reset,
         sync := { s.sync with drive := .idle, releasedAt := if s.sync.drive = .idle then s.sync.releasedAt else s.now },
         tx := { queue := (if u.sending = none then [] else u.queue.take 1)
                   ++ (if u.sending = none then u.queue else u.queue.drop 1).filter keep,
                 sending := u.sending, loss := 0 },
         rx := { s.rx with counters := LinkCounters.zero }, setOff := [] },
       ⟨.ok, .none, none⟩) := by
  obtain rfl : keep = Message.isReply := funext hkeep
  dsimp only
  rw [← tx_offerAll, ← transmitter_reinit, ← sync_release, reinitEffect, State.reinit, offerAll_eq]
  rfl

/-! ### GET_STATUS -/

theorem getStatusEffect_some {scope arg : Byte} {c : Scope} (s : State) (h : Scope.ofCode scope arg = some c) :
    getStatusEffect scope arg s = (s.clearedBy c, ⟨.ok, .status (s.contents c), none⟩) := by
  rw [getStatusEffect, h]
  rfl

theorem getStatusEffect_none {scope arg : Byte} (s : State) (h : Scope.ofCode scope arg = none) :
    getStatusEffect scope arg s = (s, ⟨.badValue, .none, none⟩) := by
  rw [getStatusEffect, h]
  rfl

theorem scope_lane {arg : Byte} {n : LaneNo} (h : arg.toNat = n.val) : Scope.ofCode 1 arg = some (.lane n) := by
  have hn : arg.toNat < 4 := h ▸ n.isLt
  refine (dif_pos hn).trans ?_
  exact congrArg (fun k => some (Scope.lane k)) (Fin.ext h)

theorem scope_seq {arg : Byte} {i : SlotNo} (h : arg.toNat = i.val) : Scope.ofCode 4 arg = some (.seq i) :=
  congrArg (Option.map Scope.seq) (slotOfCode_val h)

theorem scope_none {scope arg : Byte} (h : 4 < scope.toNat ∨ (scope = 4 ∧ 31 < arg.toNat)) : Scope.ofCode scope arg = none := by
  rcases h with h | ⟨rfl, h⟩
  · have hne : ∀ k : Byte, k.toNat ≤ 4 → scope ≠ k := fun k hk => byte_ne_of_lt (Nat.lt_of_le_of_lt hk h)
    rw [Scope.ofCode, if_neg (hne 0 (by decide)), if_neg (hne 1 (by decide)), if_neg (hne 2 (by decide)), if_neg (hne 3 (by decide)),
      if_neg (hne 4 (by decide))]
  · exact congrArg (Option.map Scope.seq) (slotOfCode_none h)

end Sys2Proof.Machine

namespace Sys2Proof.Proofs

open Sys2Proof.Machine Sys2Proof.Safety Sys2Proof.Spec

/-- Settles O6: after either reset every line is at its reset value. -/
theorem resetClearsTheLineTable : Obligations.ResetClearsTheLineTable := by
  intro s
  refine ⟨⟨_, rfl, fun l => ?_⟩, fun x h => ⟨_, command_of_awaited h reinitEffect, fun l => ?_⟩⟩
  · have hl := line_pinReset s.now s.pending s.choices s.draws l
    exact ⟨hl, guardDue_of_reset hl⟩
  · have hl : (answered (reinitEffect s).1 x (reinitEffect s).2).line l = LineRec.reset := line_reinit s.offerAll l
    exact ⟨hl, guardDue_of_reset hl⟩

/-- Settles O7, block by block. -/
theorem pinResetSetsEveryBlock : Obligations.PinResetSetsEveryBlock := by
  intro s
  refine ⟨_, rfl, rfl, fun l => ⟨line_reset l, rfl⟩, rfl, fun n => lane_reset n, fun i => slot_reset i, freeSpace_of_reset slot_reset,
    freeSlots_of_reset slot_reset, fun i => trigger_reset i, rfl, rfl, rfl, rfl, rfl, rfl, rfl, rfl, rfl, rfl, rfl, rfl, rfl⟩

/-- Settles O60, invariant by invariant. -/
theorem resetMeetsTheInvariants : Obligations.ResetMeetsTheInvariants :=
  ⟨linesSound_of_reset line_reset, configSound_of_reset line_reset lane_reset, safeHoldSound_of_reset lane_reset rfl fun _ => rfl,
    linkSound_reset, ⟨librarySound_reset, lanesSound_reset⟩, stepsLawful_reset, timesPast_pinReset 0 [] [] 0⟩

/-- Settles O8, block by block. -/
theorem reinitKeepsTheLink : Obligations.ReinitKeepsTheLink := by
  intro s x h
  exact command_answers h (reinitEffect_eq s fun m => by cases m <;> rfl)

/-- Settles O11, scope by scope. -/
theorem getStatusReadsItsScope : Obligations.GetStatusReadsItsScope := by
  intro s x scope arg h
  refine ⟨?_, ?_, ?_, ?_, ?_, fun hbad => command_answers h (getStatusEffect_none s (scope_none hbad))⟩
  · rintro rfl
    exact command_answers h (getStatusEffect_some (c := .part) s rfl)
  · rintro n rfl hn
    exact command_answers h (getStatusEffect_some s (scope_lane hn))
  · rintro rfl
    exact command_answers h (getStatusEffect_some (c := .lines) s rfl)
  · rintro rfl
    refine command_answers h ((getStatusEffect_some (c := .link (decide (arg ≠ 0))) s rfl).trans (congrArg (·, _) ?_))
    by_cases ha : arg = 0
    · rw [if_pos ha, ha]
      rfl
    · rw [if_neg ha, decide_eq_true ha]
      rfl
  · rintro i rfl hi
    exact command_answers h (getStatusEffect_some s (scope_seq hi))

end Sys2Proof.Proofs

/-! PROOFS. What a block does with each kind of event that has been set off (R10, R95, R125, R152). -/

namespace Sys2Proof.Machine

open Sys2Proof.Safety Sys2Proof.Spec

/-! ### An edge at a lane -/

/-- The trigger edge field is of the edge's direction, or BOTH (R95). -/
theorem accepts_iff (f : TriggerEdge) (e : Edge) :
    f.accepts e = true ↔ (f = .rising ∧ e = .rising) ∨ (f = .falling ∧ e = .falling) ∨ f = .both := by
  cases f <;> cases e <;> decide

/-- An advance that the step in progress waits for, past its blanking, is taken by the boundary procedure (R97, R99). -/
theorem advanceBy_of {s : State} {n : LaneNo} {r : StepRun} {a : Advance} (o : StepOutcome) (hr : (s.lane n).run = some r)
    (ha : r.step.advance = a) (hb : r.pastBlanking = true) :
    s.advanceBy n a o = s.boundary n o ((s.now - r.startedAt) / 2 ^ (s.lane n).config.tickExp) false := by
  simp only [State.advanceBy, State.elapsed, hr]
  exact if_pos ⟨ha, hb⟩

theorem advanceBy_of_not {s : State} {n : LaneNo} {r : StepRun} {a : Advance} (o : StepOutcome) (hr : (s.lane n).run = some r)
    (h : r.step.advance ≠ a ∨ r.pastBlanking = false) : s.advanceBy n a o = s := by
  simp only [State.advanceBy, hr]
  refine if_neg fun ⟨ha, hb⟩ => ?_
  rcases h with h | h
  · exact h ha
  · rw [h] at hb; cases hb

theorem advanceBy_of_none {s : State} {n : LaneNo} (a : Advance) (o : StepOutcome) (hr : (s.lane n).run = none) :
    s.advanceBy n a o = s := by
  simp only [State.advanceBy, hr]

theorem edgeAt_of_accepts {s : State} {n : LaneNo} {e : Edge} (h : (s.lane n).config.edge.accepts e = true) :
    s.edgeAt n e = s.advanceBy n .edge .edge := if_pos h

theorem edgeAt_of_not {s : State} {n : LaneNo} {e : Edge} (h : ¬ (s.lane n).config.edge.accepts e = true) : s.edgeAt n e = s := if_neg h

theorem edgeAt_of_none {s : State} {n : LaneNo} (e : Edge) (hr : (s.lane n).run = none) : s.edgeAt n e = s := by
  by_cases h : (s.lane n).config.edge.accepts e = true
  · rw [edgeAt_of_accepts h, advanceBy_of_none _ _ hr]
  · exact edgeAt_of_not h

/-! ### A sync edge at a lane -/

theorem syncLane_of_armed {s : State} {n : LaneNo} {e : Entry} {rest : List Entry} (ha : (s.lane n).state = .armed)
    (hq : (s.lane n).queue = e :: rest) : s.syncLane n = (s.beginHead n).tellState n false .sync := by
  simp only [State.syncLane, ha, hq]

theorem syncLane_of_not_armed {s : State} {n : LaneNo} (ha : (s.lane n).state ≠ .armed) : s.syncLane n = s := by
  unfold State.syncLane
  split
  · next h _ => exact absurd h ha
  · rfl

/-- A queue head begins its first step (R88). -/
theorem beginHead_begins {s : State} {n : LaneNo} {e : Entry} {rest : List Entry} {st : Step} (hq : (s.lane n).queue = e :: rest)
    (hst : s.stepAt ⟨e, 0, 1, false⟩ = some st) :
    Begins n { s.lane n with queue := rest } ⟨e, 0, 1, false⟩ st [] s (s.beginHead n) := by
  rw [beginHead_of_queue hq]
  exact ((Stands.start n s).updLane (fun r => { r with queue := rest }) rfl rfl).begins hst

/-! ### A report at the outbound queue -/

theorem saturate_eq_min (top n : Nat) : saturate top n = min (n + 1) top := by
  unfold saturate
  split <;> omega

end Sys2Proof.Machine

namespace Sys2Proof.Proofs

open Sys2Proof.Machine Sys2Proof.Safety Sys2Proof.Spec

/-- Settles O28, event by event. -/
theorem blocksTakeWhatIsSetOff : Obligations.BlocksTakeWhatIsSetOff := by
  intro s n
  refine ⟨fun e r c hr hc => ⟨fun hcounts ha hb => ?_, fun h => ?_⟩, fun e hr => edgeAt_of_none e hr, fun e rest st ha hq hst => ?_,
    fun ha => syncLane_of_not_armed ha, fun c => ⟨fun ho hs => enterSafe_entersSafe c ho hs, fun h => enterSafe_unmoved h⟩, fun r rs => ?_⟩
  · rw [State.take, edgeAt_of_accepts ((accepts_iff _ _).2 hcounts), advanceBy_of _ hr ha hb]
    exact boundary_taken hc (fun h => nomatch h.1)
  · rw [State.take]
    by_cases hcounts : (s.lane n).config.edge.accepts e = true
    · rw [edgeAt_of_accepts hcounts]
      exact advanceBy_of_not _ hr (h.resolve_left (not_not.2 ((accepts_iff _ _).1 hcounts)))
    · exact edgeAt_of_not hcounts
  · obtain ⟨hlane, hlines, -, hfault, hset⟩ := beginHead_begins hq hst
    have hact := laneAct_syncLane s n
    rw [syncLane_of_armed ha hq] at hact
    rw [State.take, syncLane_of_armed ha hq]
    refine ⟨hlane, hlines, hact.onlyLane, fun i => slot_beginHead s n i, hfault, ?_⟩
    have hrun : ((s.beginHead n).lane n).state = .running := by rw [hlane]; rfl
    have htell : ((s.beginHead n).tellState n false .sync).setOff = (s.beginHead n).setOff ++ sent [.laneState n .running .sync] := by
      rw [← hrun]; rfl
    rw [htell, hset]
    simp [sent]
  · rw [State.take]
    by_cases hroom : s.held < 6
    · rw [offer_of_room hroom, if_pos hroom]
      rfl
    · rw [offer_of_full (not_lt.1 hroom), if_neg hroom, saturate_eq_min]

end Sys2Proof.Proofs

/-! PROOFS. What may happen on an empty queue: the rows that fall due by their own conditions, the event and the completion of the frame in
execution, and the events in flight whose turn it is (R159, R173, log entries 3, 5, 8, 9). -/

namespace Sys2Proof.Machine

open Sys2Proof.Safety Sys2Proof.Spec

/-! ### The rows that fall due -/

/-- The condition on which a row falls due by itself: that of a timer, of the link or of the part's own sync pulse. No command falls due by
itself, and what comes from outside never does. -/
def State.ownDue (s : State) : Instr → Bool
  | .startUpEvent => s.startUpDue
  | .keepaliveExpiry => s.keepalive.running && s.keepalive.remaining == 0
  | .syncPulseExpiry => s.sync.drive == .driving 0
  | .syncEdge => s.ownPulseSeen && s.sync.adopted && s.sync.level == .high
  | .filterLevelAdopted input level => input == .syncN && level == .low && (s.ownPulseSeen && !s.sync.adopted)
  | .gapExpiry => s.gapDue
  | .transmissionEnd => s.transmitted
  | .frameTake => s.takeDue
  | .stepEndTimer n => s.endTimerDue n
  | .blankingEnd n => s.blankingDue n
  | .stepTimeout n => s.timeoutDue n
  | .guardExpiry l => s.guardDue l
  | _ => false

/-- A row is due on its own condition, or as the event or the completion of the frame in execution. -/
theorem mem_dueEvents (s : State) (c : Instr) : c ∈ s.dueEvents ↔ s.ownDue c = true ∨ c ∈ s.commandDue := by
  simp only [State.dueEvents, List.mem_append, mem_whenDue, List.mem_map, List.mem_filter, allLanes, List.mem_finRange, true_and]
  cases c <;> simp [State.ownDue, and_assoc, and_comm, and_left_comm, or_comm]

theorem ownDue_of_command {s : State} {c : Instr} {k : Byte} {p : List Byte} (h : c.kindAndPayload = some (k, p)) : s.ownDue c = false := by
  cases c <;> cases h <;> rfl

/-- A row that is neither a command nor the completion is due on its own condition alone. -/
theorem mem_dueEvents_of_event {s : State} {c : Instr} (hk : c.kindAndPayload = none) (hc : c ≠ .commandCompletion) :
    c ∈ s.dueEvents ↔ s.ownDue c = true := by
  refine (mem_dueEvents s c).trans (or_iff_left fun h => ?_)
  obtain ⟨x, -, ⟨a, -, -, rfl⟩ | ⟨-, hd, -⟩⟩ := mem_commandDue.1 h
  · exact hc rfl
  · have := decodeFrame_command hd
    rw [hk] at this
    cases this

/-- A command's event is due when the frame in execution carries it and its instant has come (R159, log entry 3). -/
theorem mem_dueEvents_of_command {s : State} {c : Instr} {k : Byte} {p : List Byte} (h : c.kindAndPayload = some (k, p)) :
    c ∈ s.dueEvents ↔ ∃ x, Awaited s x c ∧ x.eventAt ≤ s.now := by
  rw [mem_dueEvents, ownDue_of_command h, mem_commandDue]
  constructor
  · rintro (hf | ⟨x, hp, ⟨a, -, -, rfl⟩ | ⟨ha, hd, ht⟩⟩)
    · cases hf
    · cases h
    · exact ⟨x, ⟨hp, ha, hd⟩, ht⟩
  · rintro ⟨x, ⟨hp, ha, hd⟩, ht⟩
    exact Or.inr ⟨x, hp, Or.inr ⟨ha, hd, ht⟩⟩

theorem mem_dueEvents_completion (s : State) :
    Instr.commandCompletion ∈ s.dueEvents ↔ ∃ x a, s.proc = .executing x ∧ x.answer = some a ∧ x.completeAt ≤ s.now := by
  rw [mem_dueEvents, mem_commandDue]
  constructor
  · rintro (hf | ⟨x, hp, ⟨a, ha, ht, -⟩ | ⟨-, hd, -⟩⟩)
    · cases hf
    · exact ⟨x, a, hp, ha, ht⟩
    · exact absurd (decodeFrame_command hd) Bool.false_ne_true
  · rintro ⟨x, a, hp, ha, ht⟩
    exact Or.inr ⟨x, hp, Or.inl ⟨a, ha, ht, rfl⟩⟩

/-- A row that falls due on no condition of its own, and is no command and no completion, comes from outside. -/
theorem not_mem_dueEvents {s : State} {c : Instr} (hk : c.kindAndPayload = none) (hc : c ≠ .commandCompletion) (ho : s.ownDue c = false) :
    c ∉ s.dueEvents := by
  rw [mem_dueEvents_of_event hk hc, ho]
  exact Bool.false_ne_true

/-! ### The conditions that stand in the list itself -/

theorem keepaliveExpiry_due_iff (s : State) : s.ownDue .keepaliveExpiry = true ↔
    s.keepalive.window ≠ 0 ∧ s.keepalive.latch = false ∧ s.keepalive.remaining = 0 := by
  simp only [State.ownDue, Bool.and_eq_true, running_iff, beq_iff_eq, and_assoc]

theorem syncPulseExpiry_due_iff (s : State) : s.ownDue .syncPulseExpiry = true ↔ s.sync.drive = .driving 0 := beq_iff_eq

/-- The part's own pulse is an edge of SYNC_N while the level held is high (R127, log entry 9). -/
theorem syncEdge_due_iff (s : State) : s.ownDue .syncEdge = true ↔ s.phase ≠ .held ∧ s.sync.adopted = true ∧ s.sync.level = .high
    ∧ s.sync.since + 2 ≤ s.now ∧ ∃ r, s.sync.drive = .driving r ∧ r + 2 ≤ 20 := by
  simp only [State.ownDue, Bool.and_eq_true, beq_iff_eq, ownPulseSeen_iff]
  tauto

/-- Before any level is held it is an adoption of the low level (R124, log entry 9). -/
theorem filterLevelAdopted_due_iff (s : State) (input : FilteredInput) (level : Level) :
    s.ownDue (.filterLevelAdopted input level) = true ↔ input = .syncN ∧ level = .low ∧ s.phase ≠ .held ∧ s.sync.adopted = false
      ∧ s.sync.since + 2 ≤ s.now ∧ ∃ r, s.sync.drive = .driving r ∧ r + 2 ≤ 20 := by
  simp only [State.ownDue, Bool.and_eq_true, beq_iff_eq, ownPulseSeen_iff, Bool.not_eq_true']
  tauto

theorem transmissionEnd_due_iff (s : State) : s.ownDue .transmissionEnd = true ↔ ∃ m rest x, s.tx.queue = m :: rest ∧ s.tx.sending = some x
    ∧ (m.frame.payload.length + 6) * (if x.settings.parity = .none then 10 else 11) * 10000000
        ≤ (s.now - x.startedAt) * x.settings.rate.bps := by
  simp only [← charBits_eq]
  exact transmitted_iff s

/-! ### The events in flight whose turn it is -/

/-- An event waits for none before it when none carries a report of the sender of its next (R173). -/
theorem waitsFor_false_iff (e : SetOff) (before : List SetOff) : e.waitsFor before = false ↔
    ∀ q, e.carried.head? = some q → ∀ b ∈ before, ∀ r ∈ b.carried, r.source ≠ q.source := by
  rw [← Bool.not_eq_true, waitsFor_iff]
  push Not
  rfl

theorem mem_takeable_iff {x : SetOff} {es standing : List SetOff} : (x, standing) ∈ takeable [] es ↔ ∃ before after, es = before ++ x :: after
    ∧ (∀ q, x.carried.head? = some q → ∀ b ∈ before, ∀ r ∈ b.carried, r.source ≠ q.source) ∧ standing = before ++ x.left ++ after := by
  constructor
  · intro h
    obtain ⟨us, vs, hes, hw, hst⟩ := mem_takeable h
    exact ⟨us, vs, hes, (waitsFor_false_iff x us).1 hw, hst⟩
  · rintro ⟨before, after, rfl, hw, rfl⟩
    exact takeable_of_turn (before := []) ((waitsFor_false_iff x before).2 hw)

end Sys2Proof.Machine

namespace Sys2Proof.Proofs

open Sys2Proof.Machine Sys2Proof.Safety Sys2Proof.Spec

/-- Settles O3, row by row. -/
theorem eventsFallDueByTheirConditions : Obligations.EventsFallDueByTheirConditions := by
  intro s
  have due : ∀ {c : Instr}, c.kindAndPayload = none → c ≠ .commandCompletion → (c ∈ s.dueEvents ↔ s.ownDue c = true) :=
    mem_dueEvents_of_event
  refine ⟨(due rfl (by nofun)).trans (startUpDue_iff s), (due rfl (by nofun)).trans (keepaliveExpiry_due_iff s),
    (due rfl (by nofun)).trans (syncPulseExpiry_due_iff s), (due rfl (by nofun)).trans (syncEdge_due_iff s),
    fun input level => (due rfl (by nofun)).trans (filterLevelAdopted_due_iff s input level), (due rfl (by nofun)).trans (gapDue_iff s),
    (due rfl (by nofun)).trans (transmissionEnd_due_iff s), (due rfl (by nofun)).trans (takeDue_iff s),
    fun c k p hk => mem_dueEvents_of_command hk, mem_dueEvents_completion s,
    fun n => ⟨(due rfl (by nofun)).trans (endTimerDue_iff s n), (due rfl (by nofun)).trans (blankingDue_iff s n),
      (due rfl (by nofun)).trans (timeoutDue_iff s n)⟩,
    fun l => (due rfl (by nofun)).trans (guardDue_iff s l), fun straps c f i e x hx => ?_, fun x standing => mem_takeable_iff⟩
  simp only [List.mem_cons, List.not_mem_nil, or_false] at hx
  rcases hx with rfl | rfl | rfl | rfl | rfl | rfl | rfl | rfl | rfl <;> exact not_mem_dueEvents rfl (by nofun) rfl

end Sys2Proof.Proofs

/-! PROOFS. A step on an empty queue: it takes one of the happenings, any of them for some choice, and where there is none a base period
passes (log entries 2, 3 and 8). -/

namespace Sys2Proof.Machine

/-! ### What may happen -/

/-- What a step makes of a happening that it takes in state t. -/
def Happening.takenIn (t : State) : Happening → Out
  | .row c => exec c t
  | .setOff e standing => .next (State.take { t with setOff := standing } e)

theorem row_mem_happenings {s : State} {c : Instr} (h : c ∈ s.dueEvents) : .row c ∈ s.happenings :=
  List.mem_append_right _ (List.mem_map_of_mem h)

theorem setOff_mem_happenings {s : State} {x : SetOff × List SetOff} (h : x ∈ takeable [] s.setOff) : .setOff x.1 x.2 ∈ s.happenings :=
  List.mem_append_left _ (List.mem_map_of_mem (f := fun p : SetOff × List SetOff => Happening.setOff p.1 p.2) h)

/-- Nothing can happen exactly when nothing is in flight and nothing is due: the first event in flight is always takeable. -/
theorem happenings_eq_nil_iff (s : State) : s.happenings = [] ↔ s.setOff = [] ∧ s.dueEvents = [] := by
  have hturn : takeable [] s.setOff = [] ↔ s.setOff = [] := by
    cases s.setOff with
    | nil => simp [takeable]
    | cons e es => simp [takeable_ne_nil e es]
  rw [State.happenings, List.append_eq_nil_iff, List.map_eq_nil_iff, List.map_eq_nil_iff, hturn]

/-! ### The step -/

theorem step_of_nextHappening {s t : State} {h : Happening} (hp : s.pending = []) (hn : s.nextHappening = some (h, t)) :
    step s = h.takenIn t := by
  unfold step
  rw [hp, hn]
  cases h <;> rfl

theorem step_of_no_happening {s : State} (hp : s.pending = []) (hn : s.happenings = []) : step s = .next s.tick := by
  unfold step
  rw [hp, nextHappening_none.2 hn]

/-- While anything can happen, a step on an empty queue takes one such happening, with at most one choice drawn. -/
theorem step_takes_happening {s : State} (hp : s.pending = []) (hne : s.happenings ≠ []) :
    ∃ h ∈ s.happenings, ∃ u, (u = s ∨ u = s.draw.2) ∧ step s = h.takenIn u := by
  obtain ⟨⟨h, u⟩, hn⟩ := Option.ne_none_iff_exists'.1 (mt nextHappening_none.1 hne)
  obtain ⟨hm, hu⟩ := nextHappening_some hn
  exact ⟨h, hm, u, hu, step_of_nextHappening hp hn⟩

/-! ### Every happening can be the one -/

/-- The choice that is an element's place in the list picks that element; a list of one draws no choice. -/
theorem pick_can_be {α : Type} (s : State) {x y : α} {xs : List α} (h : y ∈ x :: xs) :
    ∃ k, (({ s with choices := k :: s.choices } : State).pick x xs).1 = y := by
  obtain ⟨k, hk, rfl⟩ := List.getElem_of_mem h
  refine ⟨k, ?_⟩
  cases xs with
  | nil => simp [State.pick]
  | cons _ _ =>
    rw [State.pick, State.draw, Nat.mod_eq_of_lt hk]
    exact List.getD_eq_getElem _ _ hk

/-- For every happening there is a choice at which the step takes it; choices change nothing of what may happen. -/
theorem step_can_take {s : State} {h : Happening} (hp : s.pending = []) (hm : h ∈ s.happenings) :
    ∃ k u, (u = s ∨ u = { s with choices := k :: s.choices }) ∧ step { s with choices := k :: s.choices } = h.takenIn u := by
  obtain ⟨x, xs, hs⟩ := List.exists_cons_of_ne_nil (List.ne_nil_of_mem hm)
  obtain ⟨k, hk⟩ := pick_can_be s (hs ▸ hm)
  let w : State := { s with choices := k :: s.choices }
  have hw : w.happenings = x :: xs := hs
  have hn : w.nextHappening = some (h, (w.pick x xs).2.2) := by rw [State.nextHappening, hw, ← hk]
  exact ⟨k, _, (pick_state w x xs).symm, step_of_nextHappening hp hn⟩

/-! ### One base period -/

theorem tick_keepalive (s : State) : s.tick.keepalive = if s.keepalive.window ≠ 0 ∧ s.keepalive.latch = false
    then { s.keepalive with remaining := s.keepalive.remaining - 1 } else s.keepalive := by
  simp only [State.tick, running_iff]

/-- The sync pulse runs down (R127). -/
theorem tick_sync (s : State) : s.tick.sync = { s.sync with drive := match s.sync.drive with
                                                                     | .driving r => .driving (r - 1)
                                                                     | .idle => .idle } := by
  simp only [State.tick]
  cases hd : s.sync.drive with
  | driving r => rfl
  | idle => exact congrArg (fun d => { s.sync with drive := d }) hd

/-- The gap count of a frame in progress runs up by its share of a character time (R147, R155). -/
theorem tick_rx (s : State) : s.tick.rx = { s.rx with state := match s.rx.state with
    | .inFrame b gap => .inFrame b (gap + s.settings.rate.bps * (110 / if s.settings.parity = .none then 10 else 11))
    | .hunting => .hunting } := by
  simp only [State.tick, LinkSettings.gapStep, charBits_eq]
  cases hr : s.rx.state with
  | inFrame b gap => rfl
  | hunting => exact congrArg (fun r => { s.rx with state := r }) hr

/-- The time, the keepalive time, the sync pulse and the receiver are all that a base period changes. -/
theorem tick_eq_of_fields {s : State} {k : Keepalive} {y : SyncUnit} {r : Receiver} (hk : s.tick.keepalive = k) (hy : s.tick.sync = y)
    (hr : s.tick.rx = r) : s.tick = { s with now := s.now + 1, keepalive := k, sync := y, rx := r } := by
  subst hk hy hr
  rfl

end Sys2Proof.Machine

namespace Sys2Proof.Proofs

open Sys2Proof.Machine Sys2Proof.Safety Sys2Proof.Spec

/-- Settles O2: the happening that the step takes, the choice that takes a given one, and the tick field by field. -/
theorem emptyQueueLetsTimePass : Obligations.EmptyQueueLetsTimePass := by
  intro s hp
  refine ⟨fun hany => ?_, fun c hc => step_can_take hp (row_mem_happenings hc), fun x hx => step_can_take hp (setOff_mem_happenings hx),
    fun hset hdue => ?_⟩
  · have hne : s.happenings ≠ [] := by
      rw [Ne, happenings_eq_nil_iff]
      tauto
    obtain ⟨h, hm, u, hu, hstep⟩ := step_takes_happening hp hne
    refine ⟨u, hu, ?_⟩
    rcases List.mem_append.1 hm with hturn | hrow
    · obtain ⟨x, hx, rfl⟩ := List.mem_map.1 hturn
      exact Or.inr ⟨x, hx, hstep⟩
    · obtain ⟨c, hc, rfl⟩ := List.mem_map.1 hrow
      exact Or.inl ⟨c, hc, hstep⟩
  · have htick := tick_eq_of_fields (tick_keepalive s) (tick_sync s) (tick_rx s)
    exact (step_of_no_happening hp ((happenings_eq_nil_iff s).2 ⟨hset, hdue⟩)).trans (congrArg _ htick)

end Sys2Proof.Proofs
/-! PROOFS. The library and the lanes in play (R41, R43, R63 to R66, R84): what the acts that make up an event keep of them, act by act. The
lane states of Table 5-1 hold again only when the event is over, so they are held apart. -/

namespace Sys2Proof.Machine

open Sys2Proof.Safety Sys2Proof.Spec

/-! ### Sums over lanes and slots -/

/-- A sum changes by as much as its one term that differs. -/
theorem sum_of_one_changed {k : Nat} {f g : Fin k → Nat} (n : Fin k) (h : ∀ m, m ≠ n → g m = f m) :
    ((List.finRange k).map g).sum + f n = ((List.finRange k).map f).sum + g n := by
  rw [← Fin.sum_univ_def, ← Fin.sum_univ_def, ← Finset.add_sum_erase _ f (Finset.mem_univ n), ← Finset.add_sum_erase _ g (Finset.mem_univ n),
    Finset.sum_congr rfl fun m hm => h m (Finset.ne_of_mem_erase hm)]
  ring

theorem term_le_sum {k : Nat} (f : Fin k → Nat) (n : Fin k) : f n ≤ ((List.finRange k).map f).sum :=
  List.le_sum_of_mem (List.mem_map_of_mem (List.mem_finRange n))

/-- The PLAY entries, queued and current, of all lanes that name slot i (R64). -/
def allUses (s : State) (i : SlotNo) : Nat := ((List.finRange 4).map fun n => uses i (s.lane n)).sum

theorem useCountsAgree_iff (s : State) : UseCountsAgree s ↔ ∀ i, (s.slot i).useCount = allUses s i := Iff.rfl

theorem uses_le_allUses (s : State) (n : LaneNo) (i : SlotNo) : uses i (s.lane n) ≤ allUses s i := term_le_sum (fun m => uses i (s.lane m)) n

theorem allUses_of_one_changed {s t : State} (n : LaneNo) (h : ∀ m, m ≠ n → t.lane m = s.lane m) (i : SlotNo) :
    allUses t i + uses i (s.lane n) = allUses s i + uses i (t.lane n) :=
  sum_of_one_changed (f := fun m => uses i (s.lane m)) (g := fun m => uses i (t.lane m)) n fun m hm => by rw [h m hm]

/-! ### One lane's record between two acts -/

/-- A PLAY entry's slot holds at least one step. -/
def bodyStored (s : State) : EntryBody → Prop
  | .step _ => True
  | .play i _ => 0 < (s.slot i).steps.length

/-- The cursor stands at a step that its entry plays (R63, R78, R84). -/
def cursorFits (s : State) (c : Current) : Prop :=
  match c.entry.body with
  | .step _ => c.index = 0 ∧ c.pass = 1
  | .play i _ => c.index < (s.slot i).steps.length ∧ 1 ≤ c.pass

/-- What holds of a lane's record all through an event: its queue within its capacity, its serials consecutive, the slots that it names
stored, and its cursor within its slot (R40, R41, R63). -/
structure LaneFits (s : State) (r : LaneRec) : Prop where
  room : r.queue.length ≤ 16
  serials : serialsRun r.nextSerial r.queue
  stored : ∀ e ∈ r.queue, bodyStored s e.body
  cursor : ∀ c, r.current = some c → cursorFits s c

/-- Every step that a record plays, or will play, is one that lane n may play (R44). -/
def LaneLawful (s : State) (n : LaneNo) (r : LaneRec) : Prop :=
  (∀ e ∈ r.queue, BodyLawful s n e.body) ∧ (∀ c, r.current = some c → BodyLawful s n c.entry.body)
    ∧ ∀ x, r.run = some x → StepLawful s n x.step

theorem stepsLawful_iff (s : State) : StepsLawful s ↔ ∀ n, LaneLawful s n (s.lane n) := Iff.rfl

/-- What holds of the whole part all through an event: `PlaySound` but for the lane states. -/
structure Stocked (s : State) : Prop where
  slots : ∀ i, SlotSound (s.slot i)
  space : s.reservedSteps ≤ 512
  counted : ∀ i, (s.slot i).useCount = allUses s i
  sealedOnly : UsedSlotsSealed s
  lanes : ∀ n, LaneFits s (s.lane n)

/-- The lane state fits what the lane holds, as Table 5-1 gives. -/
def LaneRec.inShape (r : LaneRec) : Prop := LaneRec.shaped r ∧ (LaneState.idleHanded r.state = true → r.current = none)

theorem cursorWithin_iff (s : State) (n : LaneNo) : CursorWithin s n ↔ ∀ c, (s.lane n).current = some c → cursorFits s c := by
  unfold CursorWithin
  cases (s.lane n).current with
  | none => exact ⟨fun _ _ h => (nomatch h), fun _ => trivial⟩
  | some c => exact ⟨fun h d hd => Option.some.inj hd ▸ h, fun h => h c rfl⟩

/-- A slot that a lane names is SEALED, so it holds steps (R56, R64). -/
theorem stored_of_used {s : State} (hs : ∀ i, SlotSound (s.slot i)) (hc : UseCountsAgree s) (hu : UsedSlotsSealed s) {n : LaneNo} {i : SlotNo}
    (h : 0 < uses i (s.lane n)) : 0 < (s.slot i).steps.length := by
  have hstate : (s.slot i).state = .sealed := hu i (((useCountsAgree_iff s).1 hc i) ▸ Nat.lt_of_lt_of_le h (uses_le_allUses s n i))
  have hsound := hs i
  rw [SlotSound, hstate] at hsound
  obtain ⟨heq, hpos, -⟩ := hsound
  omega

/-- A queued PLAY entry is one of its lane's uses. -/
theorem uses_pos_of_queued {r : LaneRec} {e : Entry} {i : SlotNo} {k : Nat} (he : e ∈ r.queue) (hb : e.body = .play i k) : 0 < uses i r := by
  have : 0 < r.queue.countP fun e => EntryBody.names i e.body := List.countP_pos_iff.2 ⟨e, he, by simp [hb, EntryBody.names]⟩
  rw [uses]
  omega

theorem playSound_iff (s : State) : PlaySound s ↔ Stocked s ∧ ∀ n, (s.lane n).inShape := by
  constructor
  · rintro ⟨⟨hs, hsp, hc, hu, hi⟩, hl⟩
    refine ⟨⟨hs, hsp, hc, hu, fun n => ?_⟩, fun n => ⟨(hl n).1, hi n⟩⟩
    obtain ⟨-, hq, hrun, hcur⟩ := hl n
    refine ⟨hq, hrun, fun e he => ?_, (cursorWithin_iff s n).1 hcur⟩
    unfold bodyStored
    split
    · trivial
    · next i k hb => exact stored_of_used hs hc hu (uses_pos_of_queued he hb)
  · rintro ⟨⟨hs, hsp, hc, hu, hl⟩, hi⟩
    exact ⟨⟨hs, hsp, hc, hu, fun n => (hi n).2⟩, fun n => ⟨(hi n).1, (hl n).room, (hl n).serials, (cursorWithin_iff s n).2 (hl n).cursor⟩⟩

/-! ### One act of a lane -/

/-- An act of lane n as the library and the law of its steps see it: each slot gives back the references that the lane lets go, and the lane's
record stays one that fits, and lawful. -/
structure PlayAct (n : LaneNo) (s t : State) : Prop extends LaneAct n s t where
  fewer : ∀ i, uses i (t.lane n) ≤ uses i (s.lane n)
  counts : ∀ i, (t.slot i).useCount = (s.slot i).useCount - (uses i (s.lane n) - uses i (t.lane n))
  fits : LaneFits s (s.lane n) → LaneFits t (t.lane n)
  lawful : LaneLawful s n (s.lane n) → LaneLawful t n (t.lane n)

variable {n : LaneNo} {r : LaneRec} {rs : List Report} {gone : SlotNo → Nat} {s t u : State}

theorem PlayAct.trans (a : PlayAct n s t) (b : PlayAct n t u) : PlayAct n s u :=
  { a.toLaneAct.trans b.toLaneAct with
    fewer := fun i => (b.fewer i).trans (a.fewer i)
    counts := fun i => by
      have := a.fewer i
      have := b.fewer i
      rw [b.counts, a.counts]
      omega
    fits := b.fits ∘ a.fits
    lawful := b.lawful ∘ a.lawful }

/-! ### What fits and what is lawful depend on -/

theorem bodyStored_congr (h : ∀ i, (t.slot i).steps = (s.slot i).steps) (b : EntryBody) : bodyStored t b ↔ bodyStored s b := by
  cases b <;> simp [bodyStored, h]

theorem cursorFits_congr (h : ∀ i, (t.slot i).steps = (s.slot i).steps) (c : Current) : cursorFits t c ↔ cursorFits s c := by
  unfold cursorFits
  split <;> simp [h]

theorem laneFits_congr (h : ∀ i, (t.slot i).steps = (s.slot i).steps) (hr : LaneFits s r) : LaneFits t r :=
  ⟨hr.room, hr.serials, fun e he => (bodyStored_congr h _).2 (hr.stored e he), fun c hc => (cursorFits_congr h c).2 (hr.cursor c hc)⟩

theorem stepLawful_congr (hc : (t.lane n).config.lines = (s.lane n).config.lines) (hp : ∀ l, t.partner l = s.partner l) (st : Step) :
    StepLawful t n st ↔ StepLawful s n st := by
  simp only [StepLawful, hc, funext hp]

theorem bodyLawful_congr (hc : (t.lane n).config.lines = (s.lane n).config.lines) (hp : ∀ l, t.partner l = s.partner l)
    (hs : ∀ i, (t.slot i).steps = (s.slot i).steps) (b : EntryBody) : BodyLawful t n b ↔ BodyLawful s n b := by
  cases b <;> simp [BodyLawful, stepLawful_congr hc hp, hs]

theorem LaneActs.stepLawful (a : LaneActs s t) (n : LaneNo) (st : Step) : StepLawful t n st ↔ StepLawful s n st :=
  stepLawful_congr (by rw [a.config]) a.partner st

theorem LaneActs.bodyLawful (a : LaneActs s t) (n : LaneNo) (b : EntryBody) : BodyLawful t n b ↔ BodyLawful s n b :=
  bodyLawful_congr (by rw [a.config]) a.partner a.steps b

/-- Only the active set of a step is bound by the law (R44). -/
theorem stepLawful_of_active {x y : Step} (h : x.active = y.active) (hy : StepLawful s n y) : StepLawful s n x := by
  rw [StepLawful, h]
  exact hy

/-- The step at the cursor of a lawful entry is lawful. -/
theorem stepLawful_of_stepAt {c : Current} {st : Step} (hb : BodyLawful s n c.entry.body) (h : s.stepAt c = some st) : StepLawful s n st := by
  unfold State.stepAt at h
  unfold BodyLawful at hb
  split at h
  · next hc =>
    rw [hc] at hb
    cases h
    exact hb
  · next i k hc =>
    rw [hc] at hb
    exact hb st (List.mem_of_getElem? h)

/-- The rest of a run of serials is one (R41). -/
theorem serialsRun_of_suffix {next : Half} {es fs : List Entry} (h : fs <:+ es) (hr : serialsRun next es) : serialsRun next fs := by
  obtain ⟨ps, rfl⟩ := h
  induction ps with
  | nil => exact hr
  | cons p ps ih => exact ih hr.2

/-! ### What makes an act -/

/-- Where the new current entry of lane n comes from: it fits if the record fitted, and it is the old one or one that was queued. -/
def CurrentFrom (n : LaneNo) (s : State) (c : Current) : Prop :=
  (LaneFits s (s.lane n) → cursorFits s c)
    ∧ ((∃ d, (s.lane n).current = some d ∧ c.entry.body = d.entry.body) ∨ ∃ e ∈ (s.lane n).queue, c.entry.body = e.body)

/-- Where the step in progress of lane n comes from, when its current entry is `current`: it keeps the active set of the one before, or is the
step at the cursor. -/
def RunFrom (n : LaneNo) (s : State) (current : Option Current) (x : StepRun) : Prop :=
  (∃ q, (s.lane n).run = some q ∧ x.step.active = q.step.active) ∨ ∃ c, current = some c ∧ s.stepAt c = some x.step

/-- All that there is to check of an act. -/
theorem playAct_of (a : LaneAct n s t) (hf : ∀ i, uses i (t.lane n) ≤ uses i (s.lane n))
    (hu : ∀ i, (t.slot i).useCount = (s.slot i).useCount - (uses i (s.lane n) - uses i (t.lane n)))
    (hq : (t.lane n).queue <:+ (s.lane n).queue) (hc : ∀ c, (t.lane n).current = some c → CurrentFrom n s c)
    (hr : ∀ x, (t.lane n).run = some x → RunFrom n s (t.lane n).current x) : PlayAct n s t :=
  { a with
    fewer := hf
    counts := hu
    fits := fun h => laneFits_congr a.steps
      ⟨hq.length_le.trans h.room, by rw [a.nextSerial]; exact serialsRun_of_suffix hq h.serials, fun e he => h.stored e (hq.subset he),
        fun c h' => (hc c h').1 h⟩
    lawful := by
      rintro ⟨hwq, hwc, hwr⟩
      have hcur : ∀ c, (t.lane n).current = some c → BodyLawful s n c.entry.body := by
        intro c h
        rcases (hc c h).2 with ⟨d, hd, hb⟩ | ⟨e, he, hb⟩
        · rw [hb]; exact hwc d hd
        · rw [hb]; exact hwq e he
      refine ⟨fun e he => (a.bodyLawful n _).2 (hwq e (hq.subset he)), fun c h => (a.bodyLawful n _).2 (hcur c h),
        fun x hx => (a.stepLawful n _).2 ?_⟩
      rcases hr x hx with ⟨q, hq', hact⟩ | ⟨c, hc', hst⟩
      · exact stepLawful_of_active hact (hwr q hq')
      · exact stepLawful_of_stepAt (hcur c hc') hst }

/-- An act that keeps queue, current entry and slots: the state, the lines and the step in progress may change. -/
theorem playAct_replay (a : LaneAct n s t) (hs : SlotsKept s t) (hq : (t.lane n).queue = (s.lane n).queue)
    (hc : (t.lane n).current = (s.lane n).current) (hr : ∀ x, (t.lane n).run = some x → RunFrom n s (s.lane n).current x) : PlayAct n s t := by
  have hu : ∀ i, uses i (t.lane n) = uses i (s.lane n) := fun i => by rw [uses, uses, hq, hc]
  refine playAct_of a (fun i => (hu i).le) (fun i => by rw [hu, hs i, Nat.sub_self, Nat.sub_zero]) (hq ▸ List.suffix_rfl) (fun c h => ?_)
    (by rw [hc]; exact hr)
  rw [hc] at h
  exact ⟨fun hf => hf.cursor c h, Or.inl ⟨c, h, rfl⟩⟩

theorem runFrom_self {x : StepRun} {c : Option Current} (h : (s.lane n).run = some x) : RunFrom n s c x := Or.inl ⟨x, h, rfl⟩

/-- An act that leaves lane n's record as it was but for its state. -/
theorem playAct_state (a : LaneAct n s t) (hs : SlotsKept s t) {st : LaneState} (h : t.lane n = { s.lane n with state := st }) : PlayAct n s t :=
  playAct_replay a hs (by rw [h]) (by rw [h]) (fun x hx => runFrom_self (by rw [h] at hx; exact hx))

/-- An act that leaves lane n's record as it was. -/
theorem playAct_same (a : LaneAct n s t) (hs : SlotsKept s t) (h : t.lane n = s.lane n) : PlayAct n s t :=
  playAct_state a hs (st := (s.lane n).state) h

/-- What lane n has let go: its queue or nothing of it, its current entry or nothing of it, and the references of what went. -/
theorem Stands.playAct (h : Stands n r rs gone s u) (hu : ∀ i, gone i + uses i r = uses i (s.lane n))
    (hq : r.queue = (s.lane n).queue ∨ r.queue = []) (hc : r.current = (s.lane n).current ∨ r.current = none)
    (hr : r.run = (s.lane n).run ∨ r.run = none) : PlayAct n s u := by
  obtain rfl := h.lane
  refine playAct_of h.act (fun i => by have := hu i; omega) (fun i => ?_) ?_ (fun c hcur => ?_) (fun x hx => ?_)
  · have := hu i
    rw [h.slots i]
    dsimp only
    omega
  · rcases hq with hq | hq
    · rw [hq]
    · rw [hq]; exact List.nil_suffix
  · rcases hc with hc | hc
    · rw [hc] at hcur; exact ⟨fun hf => hf.cursor c hcur, Or.inl ⟨c, hcur, rfl⟩⟩
    · rw [hc] at hcur; cases hcur
  · rcases hr with hr | hr
    · rw [hr] at hx; exact runFrom_self hx
    · rw [hr] at hx; cases hx

/-! ### The shared operations -/

theorem playAct_refl (n : LaneNo) (s : State) : PlayAct n s s := playAct_same (LaneAct.refl n s) (fun _ => rfl) rfl

theorem playAct_setLaneState (s : State) (n : LaneNo) (st : LaneState) : PlayAct n s (s.setLaneState n st) :=
  playAct_state (laneAct_setLaneState s n st) (fun _ => rfl) (lane_setLaneState_self s n st)

@[simp] theorem lane_tellState (s : State) (n m : LaneNo) (quiet : Bool) (c : Cause) : (s.tellState n quiet c).lane m = s.lane m := by
  cases quiet <;> rfl

theorem playAct_tellState (s : State) (n : LaneNo) (quiet : Bool) (c : Cause) : PlayAct n s (s.tellState n quiet c) :=
  playAct_same (laneAct_tellState s n n quiet c) (slot_tellState s n quiet c) (lane_tellState s n n quiet c)

theorem lane_goIdle_self (s : State) (n : LaneNo) : (s.goIdle n).lane n = { s.lane n with state := .idle } := by
  rw [State.goIdle, lane_setLaneState_self, lane_applyRest]

theorem playAct_goIdle (s : State) (n : LaneNo) : PlayAct n s (s.goIdle n) :=
  playAct_state (laneAct_goIdle s n) (slot_goIdle s n) (lane_goIdle_self s n)

theorem playAct_reportStep (s : State) (n : LaneNo) (c : Current) (o : StepOutcome) (e : Nat) : PlayAct n s (s.reportStep n c o e) :=
  ((Stands.start n s).reportStep c o e).playAct (fun _ => Nat.zero_add _) (Or.inl rfl) (Or.inl rfl) (Or.inl rfl)

theorem playAct_dropStep (s : State) (n : LaneNo) : PlayAct n s (s.dropStep n) :=
  ((Stands.start n s).dropStep).playAct (fun _ => Nat.zero_add _) (Or.inl rfl) (Or.inl rfl) (Or.inr rfl)

theorem playAct_cutStep (s : State) (n : LaneNo) : PlayAct n s (s.cutStep n) :=
  ((Stands.start n s).cutStep).playAct (fun _ => Nat.zero_add _) (Or.inl rfl) (Or.inl rfl) (Or.inr rfl)

/-- The queue goes, with its references (R43). -/
theorem playAct_discardQueue (s : State) (n : LaneNo) : PlayAct n s (s.discardQueue n) := by
  refine ((Stands.start n s).discardQueue).playAct (fun i => ?_) (Or.inr rfl) (Or.inl rfl) (Or.inl rfl)
  simp only [uses_eq, queuedUses, currentUses, List.countP_nil]
  omega

/-- The current entry goes, with its reference (R115, R116, R132). -/
theorem playAct_cutEntry (s : State) (n : LaneNo) (o : EntryOutcome) : PlayAct n s (s.cutEntry n o) := by
  refine ((Stands.start n s).cutEntry o).playAct (fun i => ?_) (Or.inl rfl) (Or.inr rfl) (Or.inl rfl)
  simp only [uses_eq, queuedUses, currentUses]
  omega

/-- The current entry ends (R85). -/
theorem playAct_endEntry {c : Current} (h : (s.lane n).current = some c) (o : EntryOutcome) (p : Nat) : PlayAct n s (s.endEntry n c o p) := by
  refine ((Stands.start n s).endEntry c o p).playAct (fun i => ?_) (Or.inl rfl) (Or.inr rfl) (Or.inl rfl)
  simp only [uses_eq, queuedUses, currentUses, h]
  omega

/-- The current entry changes its cursor or its mark, and the cursor stays within its slot (R84, R118). -/
theorem playAct_setCurrent {c d : Current} (h : (s.lane n).current = some c) (hb : d.entry.body = c.entry.body)
    (hf : cursorFits s c → cursorFits s d) : PlayAct n s (s.updLane n fun r => { r with current := some d }) := by
  have hl : (s.updLane n fun r => { r with current := some d }).lane n = { s.lane n with current := some d } := lane_updLane_self s n _
  have hu : ∀ i, uses i ({ s.lane n with current := some d } : LaneRec) = uses i (s.lane n) := fun i => by
    simp only [uses_eq, queuedUses, currentUses, h, hb]
  refine playAct_of (laneAct_updLane s n (fun r => { r with current := some d }) rfl rfl) (fun i => ?_) (fun i => ?_) ?_ (fun e he => ?_)
    (fun x hx => ?_)
  · rw [hl, hu]
  · rw [hl, hu, Nat.sub_self, Nat.sub_zero, slot_updLane]
  · rw [hl]
  · rw [hl] at he
    cases he
    exact ⟨fun hfit => hf (hfit.cursor c h), Or.inl ⟨c, h, hb⟩⟩
  · rw [hl] at hx
    exact runFrom_self hx

/-! ### The stages of the step boundary procedure -/

/-- A fresh cursor stands at its entry's first step (R42). -/
theorem cursorFits_first {e : Entry} (h : bodyStored s e.body) : cursorFits s (Current.first e) := by
  unfold bodyStored at h
  unfold cursorFits Current.first
  split
  · exact ⟨rfl, rfl⟩
  · next i k hb => rw [hb] at h; exact ⟨h, le_rfl⟩

/-- Lane n after stage 7: RUNNING with its cursor, and with its step when the cursor stands at one (R88). -/
theorem lane_beginStep_self (s : State) (n : LaneNo) (c : Current) : (s.beginStep n c).lane n =
    { s.lane n with current := some c, state := .running, run := match s.stepAt c with
                                                                 | some st => some ⟨st, s.now, false, false⟩
                                                                 | none => (s.lane n).run } := by
  cases hst : s.stepAt c with
  | some st => rw [lane_beginStep hst]
  | none =>
    have hs : (s.updLane n fun r => { r with current := some c, state := .running }).stepAt c = none :=
      (stepAt_congr (fun _ => rfl) c).trans hst
    simp only [State.beginStep, hs, lane_updLane_self]

/-- The step in progress after stage 7 is the one at the cursor, or the one before. -/
theorem runFrom_beginStep {c : Current} {x : StepRun} (h : ((s.beginStep n c).lane n).run = some x) : RunFrom n s (some c) x := by
  rw [lane_beginStep_self] at h
  dsimp only at h
  split at h
  · next st hst => cases h; exact Or.inr ⟨c, rfl, hst⟩
  · exact runFrom_self h

/-- Stage 7, at the cursor of the current entry (R88). -/
theorem playAct_beginStep {c : Current} (h : (s.lane n).current = some c) : PlayAct n s (s.beginStep n c) :=
  playAct_replay (laneAct_beginStep s n c) (slot_beginStep s n c) (by rw [lane_beginStep_self]) (by rw [lane_beginStep_self, h])
    (fun x hx => by rw [h]; exact runFrom_beginStep hx)

/-- Stage 6: the queue head becomes the current entry, with its reference (R42, R87). -/
theorem playAct_beginHead (h : (s.lane n).current = none) : PlayAct n s (s.beginHead n) := by
  cases hq : (s.lane n).queue with
  | nil =>
    have hb : s.beginHead n = s := by simp only [State.beginHead, hq]
    rw [hb]
    exact playAct_refl n s
  | cons e es =>
    have hb := beginHead_of_queue hq
    have hstep : (s.updLane n fun r => { r with queue := es }).stepAt (Current.first e) = s.stepAt (Current.first e) :=
      stepAt_congr (fun _ => rfl) _
    have hlane := lane_beginStep_self (s.updLane n fun r => { r with queue := es }) n (Current.first e)
    rw [← hb, lane_updLane_self] at hlane
    have hu : ∀ i, uses i ((s.beginHead n).lane n) = uses i (s.lane n) := fun i => by
      rw [hlane]
      simp only [uses_eq, queuedUses, currentUses, Current.first, h, hq, List.countP_cons]
      omega
    refine playAct_of (laneAct_beginHead s n) (fun i => (hu i).le) (fun i => by rw [hu, slot_beginHead, Nat.sub_self, Nat.sub_zero]) ?_
      (fun c hc => ?_) (fun x hx => ?_)
    · rw [hlane, hq]
      exact List.suffix_cons e es
    · rw [hlane] at hc
      cases hc
      exact ⟨fun hf => cursorFits_first (hf.stored e (hq ▸ List.mem_cons_self)), Or.inr ⟨e, hq ▸ List.mem_cons_self, rfl⟩⟩
    · rw [hlane] at hx ⊢
      dsimp only at hx
      split at hx
      · next st hst => cases hx; exact Or.inr ⟨_, rfl, hstep ▸ hst⟩
      · exact runFrom_self hx

/-- Stages 6 and 7 (R87). -/
theorem playAct_nextStep (s : State) (n : LaneNo) (quiet : Bool) : PlayAct n s (s.nextStep n quiet) := by
  unfold State.nextStep
  split
  · next h => exact playAct_beginStep h
  · next h _ => exact playAct_beginHead h
  · split
    · exact (playAct_setLaneState s n _).trans (playAct_tellState _ n quiet _)
    · exact (playAct_goIdle s n).trans (playAct_tellState _ n quiet _)

/-- Where stage 4 moves the cursor to: of the same entry, and within its slot (R84). -/
theorem cursor_of_move {c c' : Current} {filled : SlotNo → Nat} (h : c.move filled = .continues c') : c'.entry.body = c.entry.body
    ∧ ∃ i k, c.entry.body = .play i k ∧ ((c'.index < filled i ∧ c'.pass = c.pass) ∨ c'.index = 0 ∧ c'.pass = c.pass + 1) := by
  unfold Current.move at h
  split at h
  · cases h
  · next i k hb =>
    split at h
    · next hlt => cases h; exact ⟨rfl, i, k, hb, Or.inl ⟨hlt, rfl⟩⟩
    · split at h
      · cases h
      · split at h
        · cases h
        · cases h; exact ⟨rfl, i, k, hb, Or.inr ⟨rfl, rfl⟩⟩

theorem cursorFits_of_move {c c' : Current} (h : c.move s.filled = .continues c') (hf : cursorFits s c) : cursorFits s c' := by
  obtain ⟨hb, i, k, hbody, hmove⟩ := cursor_of_move h
  unfold cursorFits at hf ⊢
  rw [hb, hbody]
  rw [hbody] at hf
  obtain ⟨hlt, hpass⟩ := hf
  rcases hmove with ⟨hi, hp⟩ | ⟨hi, hp⟩
  · exact ⟨hi, hp ▸ hpass⟩
  · exact ⟨hi ▸ Nat.zero_lt_of_lt hlt, hp ▸ Nat.le_add_left _ _⟩

/-- Stage 4 (R84). -/
theorem playAct_moveCursor {c : Current} (h : (s.lane n).current = some c) : PlayAct n s (s.moveCursor n c) := by
  unfold State.moveCursor
  split
  · next c' hm => exact playAct_setCurrent h (cursor_of_move hm).1 (cursorFits_of_move hm)
  · exact playAct_endEntry h _ _

/-- Stage 3 (R83). -/
theorem playAct_stopHere {c : Current} (h : (s.lane n).current = some c) (quiet : Bool) : PlayAct n s (s.stopHere n c quiet) := by
  unfold State.stopHere
  dsimp only
  split
  · exact (playAct_endEntry h _ _).trans ((playAct_goIdle _ n).trans (playAct_tellState _ n quiet _))
  · exact (playAct_endEntry h _ _).trans ((playAct_goIdle _ n).trans (playAct_tellState _ n quiet _))

/-- The entry to SAFE (R131). -/
theorem playAct_safeStages (s : State) (n : LaneNo) (c : SafeCause) : PlayAct n s (s.safeStages n c) := by
  refine playAct_of (laneAct_safeStages s n c) (fun i => ?_) (fun i => ?_) ?_ (fun c hc => ?_) (fun x hx => ?_)
  all_goals rw [lane_safeStages] at *
  · exact Nat.zero_le _
  · rw [slot_safeStages]; rfl
  · exact List.nil_suffix
  · cases hc
  · cases hx

theorem playAct_enterSafe (s : State) (n : LaneNo) (c : SafeCause) : PlayAct n s (s.enterSafe n c) := by
  unfold State.enterSafe
  split
  · exact playAct_refl n s
  · exact playAct_safeStages s n c

theorem playAct_afterStep {c : Current} (h : (s.lane n).current = some c) (o : StepOutcome) (quiet : Bool) :
    PlayAct n s (s.afterStep n c o quiet) := by
  unfold State.afterStep
  split
  · exact playAct_enterSafe s n _
  · split
    · exact playAct_stopHere h quiet
    · split
      · exact (playAct_moveCursor h).trans ((playAct_setLaneState _ n _).trans (playAct_tellState _ n quiet _))
      · exact (playAct_moveCursor h).trans (playAct_nextStep _ n quiet)

theorem playAct_boundary (s : State) (n : LaneNo) (o : StepOutcome) (e : Nat) (quiet : Bool) : PlayAct n s (s.boundary n o e quiet) := by
  unfold State.boundary
  split
  · next c hc =>
    have hl := (((Stands.start n s).reportStep c o e).dropStep).lane
    exact (playAct_reportStep s n c o e).trans ((playAct_dropStep _ n).trans (playAct_afterStep (by rw [hl]; exact hc) o quiet))
  · exact playAct_dropStep s n

end Sys2Proof.Machine

/-! PROOFS. One event of a lane: at its end the lane state fits again what the lane holds (Table 5-1), so that the event keeps the library, the
lanes in play, and the law of the steps to be played. -/

namespace Sys2Proof.Machine

open Sys2Proof.Safety Sys2Proof.Spec

variable {n : LaneNo} {r : LaneRec} {s t u : State}

/-! ### What an event keeps -/

/-- The library and the lanes in play stay sound, and the steps to be played lawful (R41, R44, R55, R63, R64). -/
def KeepsPlay (s t : State) : Prop := PlaySound s → PlaySound t ∧ (StepsLawful s → StepsLawful t)

theorem KeepsPlay.refl (s : State) : KeepsPlay s s := fun h => ⟨h, id⟩

theorem KeepsPlay.trans (a : KeepsPlay s t) (b : KeepsPlay t u) : KeepsPlay s u := fun h => by
  obtain ⟨ht, hlt⟩ := a h
  obtain ⟨hu, hlu⟩ := b ht
  exact ⟨hu, hlu ∘ hlt⟩

/-- A slot whose use count falls stays sound. -/
theorem slotSound_of_fewer {x : Slot} {k : Nat} (hk : k ≤ x.useCount) (h : SlotSound x) : SlotSound { x with useCount := k } := by
  unfold SlotSound at h ⊢
  dsimp only
  split at h
  · obtain ⟨hd, hs, hu⟩ := h
    exact ⟨hd, hs, Nat.le_zero.1 (hu ▸ hk)⟩
  · obtain ⟨hf, hd, hu⟩ := h
    exact ⟨hf, hd, Nat.le_zero.1 (hu ▸ hk)⟩
  · exact h

theorem laneLawful_congr {m : LaneNo} (hc : (t.lane m).config.lines = (s.lane m).config.lines) (hp : ∀ l, t.partner l = s.partner l)
    (hs : ∀ i, (t.slot i).steps = (s.slot i).steps) (h : LaneLawful s m r) : LaneLawful t m r := by
  simpa only [LaneLawful, bodyLawful_congr hc hp hs, stepLawful_congr hc hp] using h

/-- The reserved steps are those of the declared lengths (R55). -/
theorem reservedSteps_congr (h : ∀ i, (t.slot i).declared = (s.slot i).declared) : t.reservedSteps = s.reservedSteps := by
  simp only [State.reservedSteps, Slot.reserved, h]

/-- An act of lane n keeps all but the lane states. -/
theorem PlayAct.stocked (a : PlayAct n s t) (h : Stocked s) : Stocked t where
  slots i := by
    rw [a.slot i]
    exact slotSound_of_fewer ((a.counts i).trans_le (Nat.sub_le _ _)) (h.slots i)
  space := by
    have hr : t.reservedSteps = s.reservedSteps := reservedSteps_congr fun i => by rw [a.slot i]
    exact hr.trans_le h.space
  counted i := by
    have hsum := allUses_of_one_changed n a.lane i
    have hle := uses_le_allUses s n i
    have hfew := a.fewer i
    rw [a.counts, h.counted i]
    omega
  sealedOnly i hi := by
    rw [a.slotState]
    exact h.sealedOnly i (Nat.lt_of_lt_of_le hi ((a.counts i).trans_le (Nat.sub_le _ _)))
  lanes m := by
    by_cases hm : m = n
    · subst hm; exact a.fits (h.lanes m)
    · rw [a.lane m hm]; exact laneFits_congr a.steps (h.lanes m)

theorem PlayAct.stepsLawful (a : PlayAct n s t) (h : StepsLawful s) : StepsLawful t := by
  intro m
  by_cases hm : m = n
  · subst hm; exact a.lawful (h m)
  · rw [a.lane m hm]; exact laneLawful_congr (by rw [a.config]) a.partner a.steps (h m)

/-- An event of lane n: out of a record that fits and is in shape it is an act, and its end is in shape. -/
def PlayTurn (n : LaneNo) (s t : State) : Prop :=
  LaneFits s (s.lane n) → (s.lane n).inShape → PlayAct n s t ∧ (t.lane n).inShape

theorem PlayTurn.keeps (a : PlayTurn n s t) : KeepsPlay s t := by
  intro h
  obtain ⟨hs, hi⟩ := (playSound_iff s).1 h
  obtain ⟨hact, hshape⟩ := a (hs.lanes n) (hi n)
  refine ⟨(playSound_iff t).2 ⟨hact.stocked hs, fun m => ?_⟩, hact.stepsLawful⟩
  by_cases hm : m = n
  · subst hm; exact hshape
  · rw [hact.lane m hm]; exact hi m

theorem PlayTurn.refl (n : LaneNo) (s : State) : PlayTurn n s s := fun _ hi => ⟨playAct_refl n s, hi⟩

/-! ### Table 5-1, state by state -/

theorem inShape_idle (hs : r.state = .idle) (hc : r.current = none) (hr : r.run = none) : r.inShape := by
  simp [LaneRec.inShape, LaneRec.shaped, LaneState.inStep, hs, hc, hr]

theorem inShape_armed (hs : r.state = .armed) (hq : r.queue ≠ []) (hc : r.current = none) (hr : r.run = none) : r.inShape := by
  simp [LaneRec.inShape, LaneRec.shaped, LaneState.inStep, hs, hq, hc, hr]

theorem inShape_paused (hs : r.state = .paused) (hr : r.run = none) : r.inShape := by
  simp [LaneRec.inShape, LaneRec.shaped, LaneState.inStep, LaneState.idleHanded, hs, hr]

/-- OFF, STARVED and SAFE, holding nothing. -/
theorem inShape_bare (hs : r.state = .off ∨ r.state = .starved ∨ r.state = .safe) (h : r.bare) : r.inShape := by
  obtain ⟨hq, hc, hr⟩ := h
  rcases hs with hs | hs | hs <;> simp [LaneRec.inShape, LaneRec.shaped, LaneState.inStep, hs, hq, hc, hr]

/-- RUNNING, PAUSING and STOPPING, with a step in progress. -/
theorem inShape_inStep (hs : LaneState.inStep r.state = true) (hc : r.current.isSome = true) (hr : r.run.isSome = true)
    (hq : r.state = .stopping → r.queue = []) : r.inShape := by
  cases hst : r.state <;> simp_all [LaneRec.inShape, LaneRec.shaped, LaneState.inStep, LaneState.idleHanded]

theorem LaneRec.inShape.inStep (h : r.inShape) {q : StepRun} (hr : r.run = some q) :
    LaneState.inStep r.state = true ∧ ∃ c, r.current = some c := by
  obtain ⟨⟨hrun, hcur, -, -⟩, -⟩ := h
  have hs := hrun.1 (by rw [hr]; rfl)
  exact ⟨hs, Option.isSome_iff_exists.1 (hcur hs)⟩

theorem LaneRec.inShape.playing (h : r.inShape) (hs : LaneState.inStep r.state = true) : r.current.isSome = true ∧ r.run.isSome = true := by
  obtain ⟨⟨hrun, hcur, -, -⟩, -⟩ := h
  exact ⟨hcur hs, hrun.2 hs⟩

theorem LaneRec.inShape.noStep (h : r.inShape) (hs : LaneState.inStep r.state = false) : r.run = none := by
  obtain ⟨⟨hrun, -, -, -⟩, -⟩ := h
  rw [← Option.isNone_iff_eq_none, ← Option.isSome_eq_false_iff, Bool.eq_false_iff]
  exact fun hc => absurd (hrun.1 hc) (by simp [hs])

/-- A lane that is not ARMED may lose its queue. -/
theorem LaneRec.inShape.dropQueue (h : r.inShape) (hs : r.state ≠ .armed) : ({ r with queue := [] } : LaneRec).inShape := by
  obtain ⟨⟨hrun, hcur, -, -⟩, hidle⟩ := h
  exact ⟨⟨hrun, hcur, fun _ => rfl, fun ha => absurd ha hs⟩, hidle⟩

/-! ### The step boundary procedure -/

/-- A cursor within its slot stands at a step (R63). -/
theorem exists_stepAt {c : Current} (h : cursorFits s c) : ∃ st, s.stepAt c = some st := by
  unfold cursorFits at h
  unfold State.stepAt
  split
  · next st _ => exact ⟨st, rfl⟩
  · next i k hb =>
    rw [hb] at h
    exact ⟨_, List.getElem?_eq_getElem h.1⟩

/-- Stage 7 leaves the lane RUNNING with its step (R88). -/
theorem inShape_beginStep {c : Current} (h : cursorFits s c) : ((s.beginStep n c).lane n).inShape := by
  obtain ⟨st, hst⟩ := exists_stepAt h
  rw [lane_beginStep hst]
  exact inShape_inStep rfl rfl rfl (fun h => nomatch h)

theorem inShape_beginHead (hf : LaneFits s (s.lane n)) (hq : (s.lane n).queue ≠ []) : ((s.beginHead n).lane n).inShape := by
  obtain ⟨e, es, he⟩ := List.exists_cons_of_ne_nil hq
  rw [beginHead_of_queue he]
  have hc := cursorFits_first (hf.stored e (he ▸ List.mem_cons_self))
  exact inShape_beginStep ((cursorFits_congr (fun _ => rfl) _).2 hc)

/-- Stages 6 and 7, of a lane without a step in progress (R87, R88). -/
theorem inShape_nextStep (hf : LaneFits s (s.lane n)) (hr : (s.lane n).run = none) (quiet : Bool) :
    ((s.nextStep n quiet).lane n).inShape := by
  unfold State.nextStep
  split
  · next c hc => exact inShape_beginStep (hf.cursor c hc)
  · next hq => exact inShape_beginHead hf (by simp [hq])
  · next hc hq =>
    split
    · rw [lane_tellState, lane_setLaneState_self]
      exact inShape_bare (Or.inr (Or.inl rfl)) ⟨hq, hc, hr⟩
    · rw [lane_tellState, lane_goIdle_self]
      exact inShape_idle rfl hc hr

/-- A lane that goes to IDLE holding no entry and no step (R92). -/
theorem inShape_goIdle (hc : (s.lane n).current = none) (hr : (s.lane n).run = none) : ((s.goIdle n).lane n).inShape := by
  rw [lane_goIdle_self]
  exact inShape_idle rfl hc hr

theorem lane_endEntry_self (s : State) (n : LaneNo) (c : Current) (o : EntryOutcome) (p : Nat) :
    (s.endEntry n c o p).lane n = { s.lane n with current := none } := ((Stands.start n s).endEntry c o p).lane

theorem lane_cutEntry_self (s : State) (n : LaneNo) (o : EntryOutcome) : (s.cutEntry n o).lane n = { s.lane n with current := none } :=
  ((Stands.start n s).cutEntry o).lane

theorem lane_cutStep_self (s : State) (n : LaneNo) : (s.cutStep n).lane n = { s.lane n with run := none } := ((Stands.start n s).cutStep).lane

theorem lane_discardQueue_self (s : State) (n : LaneNo) : (s.discardQueue n).lane n = { s.lane n with queue := [] } :=
  ((Stands.start n s).discardQueue).lane

/-- Stage 3, of a lane whose step is over (R83). -/
theorem inShape_stopHere (hr : (s.lane n).run = none) (c : Current) (quiet : Bool) : ((s.stopHere n c quiet).lane n).inShape := by
  unfold State.stopHere
  dsimp only
  rw [lane_tellState]
  split
  · exact inShape_goIdle (by rw [lane_endEntry_self]) (by rw [lane_endEntry_self]; exact hr)
  · exact inShape_goIdle (by rw [lane_endEntry_self]) (by rw [lane_endEntry_self]; exact hr)

theorem run_moveCursor (s : State) (n : LaneNo) (c : Current) : ((s.moveCursor n c).lane n).run = (s.lane n).run := by
  unfold State.moveCursor
  split
  · rw [lane_updLane_self]
  · rw [lane_endEntry_self]

/-- A cause of safe hold, at a lane that is in shape or that is neither OFF nor in SAFE (R130, R131). -/
theorem inShape_enterSafe (c : SafeCause) (h : (s.lane n).state = .off ∨ (s.lane n).state = .safe → (s.lane n).inShape) :
    ((s.enterSafe n c).lane n).inShape := by
  by_cases hs : (s.lane n).state = .off ∨ (s.lane n).state = .safe
  · rw [enterSafe_unmoved hs]
    exact h hs
  · obtain ⟨ho, hsafe⟩ := not_or.1 hs
    rw [enterSafe_of ho hsafe, lane_safeStages]
    exact inShape_bare (Or.inr (Or.inr rfl)) ⟨rfl, rfl, rfl⟩

/-- Stages 2 to 7, of a lane in play whose step is over (R82 to R88). -/
theorem inShape_afterStep {c : Current} (hf : LaneFits s (s.lane n)) (hs : LaneState.inStep (s.lane n).state = true)
    (hc : (s.lane n).current = some c) (hr : (s.lane n).run = none) (o : StepOutcome) (quiet : Bool) :
    ((s.afterStep n c o quiet).lane n).inShape := by
  unfold State.afterStep
  split
  · exact inShape_enterSafe _ fun h => by rcases h with h | h <;> · rw [h] at hs; cases hs
  · split
    · exact inShape_stopHere hr c quiet
    · split
      · rw [State.pauseHere, lane_tellState, lane_setLaneState_self]
        exact inShape_paused rfl ((run_moveCursor s n c).trans hr)
      · exact inShape_nextStep ((playAct_moveCursor hc).fits hf) ((run_moveCursor s n c).trans hr) quiet

/-- The step boundary procedure ends the step in progress of lane n (R80). -/
theorem playTurn_boundary {q : StepRun} (hr : (s.lane n).run = some q) (o : StepOutcome) (e : Nat) (quiet : Bool) :
    PlayTurn n s (s.boundary n o e quiet) := by
  intro hf hi
  refine ⟨playAct_boundary s n o e quiet, ?_⟩
  obtain ⟨hs, c, hc⟩ := hi.inStep hr
  have hl := (((Stands.start n s).reportStep c o e).dropStep).lane
  have hfit := ((playAct_reportStep s n c o e).trans (playAct_dropStep _ n)).fits hf
  simp only [State.boundary, hc]
  exact inShape_afterStep hfit (by rw [hl]; exact hs) (by rw [hl]; exact hc) (by rw [hl]) o quiet

/-! ### The events in flight, and the timers -/

theorem playTurn_enterSafe (s : State) (n : LaneNo) (c : SafeCause) : PlayTurn n s (s.enterSafe n c) :=
  fun _ hi => ⟨playAct_enterSafe s n c, inShape_enterSafe c fun _ => hi⟩

theorem playTurn_advanceBy (s : State) (n : LaneNo) (a : Advance) (o : StepOutcome) : PlayTurn n s (s.advanceBy n a o) := by
  unfold State.advanceBy
  split
  · next q hq =>
    split
    · exact playTurn_boundary hq o _ false
    · exact PlayTurn.refl n s
  · exact PlayTurn.refl n s

theorem playTurn_edgeAt (s : State) (n : LaneNo) (e : Edge) : PlayTurn n s (s.edgeAt n e) := by
  unfold State.edgeAt
  split
  · exact playTurn_advanceBy s n _ _
  · exact PlayTurn.refl n s

theorem playTurn_endByTimer (s : State) (n : LaneNo) (o : StepRun → StepOutcome) : PlayTurn n s (s.endByTimer n o) := by
  unfold State.endByTimer
  split
  · next q hq => exact playTurn_boundary hq _ _ false
  · exact PlayTurn.refl n s

/-- The head of a queue that is not empty begins at a lane that holds no entry (R42, R73). -/
theorem playTurn_beginHead (hs : LaneState.idleHanded (s.lane n).state = true) (hq : (s.lane n).queue ≠ []) : PlayTurn n s (s.beginHead n) :=
  fun hf hi => ⟨playAct_beginHead (hi.2 hs), inShape_beginHead hf hq⟩

theorem playTurn_syncLane (s : State) (n : LaneNo) : PlayTurn n s (s.syncLane n) := by
  unfold State.syncLane
  split
  · next hs hq =>
    intro hf hi
    obtain ⟨hact, hshape⟩ := playTurn_beginHead (by rw [hs]; rfl) (by simp [hq]) hf hi
    exact ⟨hact.trans (playAct_tellState _ n false _), by rw [lane_tellState]; exact hshape⟩
  · exact PlayTurn.refl n s

/-- The blanking of the step in progress is over (R96). -/
theorem playTurn_blankingEnd (n : LaneNo) (s : State) :
    PlayTurn n s (s.updLane n fun x => { x with run := x.run.map fun q => { q with pastBlanking := true } }) := by
  intro hf hi
  have hl := lane_updLane_self s n fun x => { x with run := x.run.map fun q => { q with pastBlanking := true } }
  refine ⟨playAct_replay (laneAct_updLane s n _ rfl rfl) (slot_updLane s n _) (by rw [hl]) (by rw [hl]) (fun x hx => ?_), ?_⟩
  · rw [hl] at hx
    obtain ⟨q, hq, rfl⟩ := Option.map_eq_some_iff.1 hx
    exact Or.inl ⟨q, hq, rfl⟩
  · rw [hl]
    simpa only [LaneRec.inShape, LaneRec.shaped, Option.isSome_map] using hi

/-! ### The commands of one lane -/

theorem playTurn_pause (n : LaneNo) (s : State) : PlayTurn n s (pauseEffect n s).1 := by
  unfold pauseEffect
  split
  · next hs =>
    intro hf hi
    obtain ⟨hc, hr⟩ := hi.playing (by rw [hs]; rfl)
    refine ⟨playAct_setLaneState s n _, ?_⟩
    rw [State.laneAnswer, lane_setLaneState_self]
    exact inShape_inStep rfl hc hr (fun h => nomatch h)
  · next hs =>
    intro hf hi
    refine ⟨playAct_setLaneState s n _, ?_⟩
    rw [State.laneAnswer, lane_setLaneState_self]
    exact inShape_paused rfl (hi.noStep (by rw [hs]; rfl))
  all_goals exact PlayTurn.refl n s

theorem playTurn_resume (n : LaneNo) (s : State) : PlayTurn n s (resumeEffect n s).1 := by
  unfold resumeEffect
  split
  · next hs =>
    intro hf hi
    obtain ⟨hc, hr⟩ := hi.playing (by rw [hs]; rfl)
    refine ⟨playAct_setLaneState s n _, ?_⟩
    rw [State.laneAnswer, lane_setLaneState_self]
    exact inShape_inStep rfl hc hr (fun h => nomatch h)
  · next hs =>
    intro hf hi
    have hset := playAct_setLaneState s n .running
    have hr : ((s.setLaneState n .running).lane n).run = none := by
      rw [lane_setLaneState_self]
      exact hi.noStep (by rw [hs]; rfl)
    exact ⟨hset.trans (playAct_nextStep _ n true), inShape_nextStep (hset.fits hf) hr true⟩
  all_goals exact PlayTurn.refl n s

/-- STOP with mode BOUNDARY, its discard included (R115). -/
theorem playTurn_stopBoundary (s : State) (n : LaneNo) : PlayTurn n s ((s.discardQueue n).stopBoundary n) := by
  intro hf hi
  have hd := playAct_discardQueue s n
  have hl := lane_discardQueue_self s n
  have hstopping : LaneState.inStep (s.lane n).state = true → (((s.discardQueue n).setLaneState n .stopping).lane n).inShape := by
    intro hs
    obtain ⟨hc, hr⟩ := hi.playing hs
    rw [lane_setLaneState_self, hl]
    exact inShape_inStep rfl hc hr (fun _ => rfl)
  have hstate : ((s.discardQueue n).lane n).state = (s.lane n).state := by rw [hl]
  unfold State.stopBoundary
  rw [hstate]
  split
  · next hs => exact ⟨hd.trans (playAct_setLaneState _ n _), hstopping (by rw [hs]; rfl)⟩
  · next hs => exact ⟨hd.trans (playAct_setLaneState _ n _), hstopping (by rw [hs]; rfl)⟩
  · next hs =>
    refine ⟨hd.trans ((playAct_cutEntry _ n _).trans (playAct_goIdle _ n)), inShape_goIdle (by rw [lane_cutEntry_self]) ?_⟩
    rw [lane_cutEntry_self, hl]
    exact hi.noStep (by rw [hs]; rfl)
  · next hs =>
    exact ⟨hd.trans (playAct_goIdle _ n),
      inShape_goIdle (by rw [hl]; exact hi.2 (by rw [hs]; rfl)) (by rw [hl]; exact hi.noStep (by rw [hs]; rfl))⟩
  · next hs =>
    refine ⟨hd.trans (playAct_setLaneState _ n _), ?_⟩
    rw [lane_setLaneState_self, hl]
    exact inShape_idle rfl (hi.2 (by rw [hs]; rfl)) (hi.noStep (by rw [hs]; rfl))
  all_goals
    next hs => exact ⟨hd, by rw [hl]; exact hi.dropQueue (by simp [hs])⟩

/-- STOP with mode NOW, its discard included (R116). -/
theorem playTurn_stopNow (s : State) (n : LaneNo) : PlayTurn n s ((s.discardQueue n).stopNow n) := by
  intro hf hi
  have hd := playAct_discardQueue s n
  have hl := lane_discardQueue_self s n
  have hstate : ((s.discardQueue n).lane n).state = (s.lane n).state := by rw [hl]
  unfold State.stopNow
  rw [hstate]
  split
  · next hs =>
    refine ⟨hd.trans (playAct_setLaneState _ n _), ?_⟩
    rw [lane_setLaneState_self, hl]
    exact inShape_idle rfl (hi.2 (by rw [hs]; rfl)) (hi.noStep (by rw [hs]; rfl))
  · exact ⟨hd.trans ((playAct_cutStep _ n).trans ((playAct_cutEntry _ n _).trans (playAct_goIdle _ n))),
      inShape_goIdle (by rw [lane_cutEntry_self]) (by rw [lane_cutEntry_self, lane_cutStep_self])⟩

theorem playTurn_stop (n : LaneNo) (mode : Byte) (s : State) : PlayTurn n s (stopEffect n mode s).1 := by
  unfold stopEffect
  split
  · exact PlayTurn.refl n s
  · split
    · exact PlayTurn.refl n s
    · next m _ _ =>
      cases m with
      | boundary => exact playTurn_stopBoundary s n
      | now => exact playTurn_stopNow s n

/-- BREAK marks the current PLAY entry, and leaves its cursor (R118). -/
theorem playTurn_break (n : LaneNo) (s : State) : PlayTurn n s (breakEffect n s).1 := by
  unfold breakEffect
  split
  · exact PlayTurn.refl n s
  · next c hc =>
    split
    · exact PlayTurn.refl n s
    · intro hf hi
      refine ⟨playAct_setCurrent (d := { c with breakPending := true }) hc rfl id, ?_⟩
      rw [lane_updLane_self]
      obtain ⟨⟨hrun, hcur, hrest⟩, hidle⟩ := hi
      exact ⟨⟨hrun, fun _ => rfl, hrest⟩, fun h => absurd (hc.symm.trans (hidle h)) (Option.some_ne_none c)⟩

/-- The step in progress changes, but not its active set. -/
theorem playTurn_setRun {q : StepRun} (hr : (s.lane n).run = some q) (x : StepRun) (hx : x.step.active = q.step.active) :
    PlayTurn n s (s.updLane n fun r => { r with run := some x }) := by
  intro hf hi
  have hl := lane_updLane_self s n fun r => { r with run := some x }
  refine ⟨playAct_replay (laneAct_updLane s n (fun r => { r with run := some x }) rfl rfl) (slot_updLane s n _) (by rw [hl]) (by rw [hl])
    (fun y hy => ?_), ?_⟩
  · rw [hl] at hy
    cases hy
    exact Or.inl ⟨q, hr, hx⟩
  · obtain ⟨hs, -⟩ := hi.inStep hr
    obtain ⟨⟨-, hcur, hrest⟩, hidle⟩ := hi
    rw [hl]
    exact ⟨⟨iff_of_true rfl hs, hcur, hrest⟩, hidle⟩

/-- AMEND changes the duration of the step in progress, or ends it (R120). -/
theorem playTurn_amend (n : LaneNo) (serial d : Half) (s : State) : PlayTurn n s (amendEffect n serial d s).1 := by
  unfold amendEffect
  split
  · exact PlayTurn.refl n s
  · next q hq =>
    have hr := run_of_amendCheck hq
    split
    · exact playTurn_boundary hr _ _ true
    · exact playTurn_setRun hr { q with step := { q.step with duration := d.toNat }, amended := true } rfl

theorem playTurn_flush (n : LaneNo) (s : State) : PlayTurn n s (flushEffect n s).1 := by
  unfold flushEffect
  split
  · exact PlayTurn.refl n s
  · intro hf hi
    have hd := playAct_discardQueue s n
    have hl := lane_discardQueue_self s n
    dsimp only
    split
    · next hs =>
      refine ⟨hd.trans (playAct_setLaneState _ n _), ?_⟩
      rw [lane_setLaneState_self, hl]
      exact inShape_idle rfl (hi.2 (by rw [hs]; rfl)) (hi.noStep (by rw [hs]; rfl))
    · next hs => exact ⟨hd, by rw [hl]; exact hi.dropQueue hs⟩

end Sys2Proof.Machine

/-! PROOFS. What the checks of a step, of a stored sequence and of an entry answer (Table 3-4, R38, R48), each said once. -/

namespace Sys2Proof.Machine

open Sys2Proof.Safety Sys2Proof.Spec

variable {n : LaneNo} {s : State}

/-! ### The checks of one step against a lane -/

/-- A step that leaves its lane's lines is refused first (R44). -/
theorem stepCheck_notOwned {c : LaneConfig} {partner : LineNo → Option LineNo} {st : Step} (h : lineSubset st.active c.lines = false) :
    stepCheck c partner st = some .notOwned := if_pos h

/-- Past check 1, an interlock pair is refused (R44). -/
theorem stepCheck_interlock {c : LaneConfig} {partner : LineNo → Option LineNo} {st : Step} (h : lineSubset st.active c.lines = true)
    (hp : holdsPair partner st.active = true) : stepCheck c partner st = some .interlock := by
  rw [stepCheck, if_neg (by simp [h]), if_pos hp]

/-- Past checks 1 and 2, the durations and the sources of the advance are left to check (R45, R46). -/
theorem stepCheck_lawful {c : LaneConfig} {partner : LineNo → Option LineNo} {st : Step} (h : lineSubset st.active c.lines = true)
    (hp : holdsPair partner st.active = false) : stepCheck c partner st =
      if c.ticks st.duration ≤ c.guard then some .tooShort
      else if st.advance ≠ .time ∧ st.duration ≤ c.blanking then some .tooShort
      else if st.advance = .edge ∧ c.trigger = none then some .badValue
      else if st.advance = .follow ∧ c.leader = none then some .badValue
      else none := by
  rw [stepCheck, if_neg (by simp [h]), if_neg (by simp [hp])]

/-- A step that passes its checks is lawful for the lane (checks 1 and 2 of R44). -/
theorem stepLawful_of_stepCheck {st : Step} (h : stepCheck (s.lane n).config s.partner st = none) : StepLawful s n st := by
  by_cases hs : lineSubset st.active (s.lane n).config.lines = true
  · by_cases hp : holdsPair s.partner st.active = true
    · rw [stepCheck_interlock hs hp] at h; cases h
    · exact ⟨hs, by simpa using hp⟩
  · rw [stepCheck_notOwned (by simpa using hs)] at h; cases h

/-! ### The checks of the steps of a sequence -/

/-- Each step is checked completely before the next, so steps that pass leave the answer to those behind them (R44). -/
theorem stepsCheck_append {c : LaneConfig} {partner : LineNo → Option LineNo} {before : List Step}
    (h : ∀ b ∈ before, stepCheck c partner b = none) (after : List Step) :
    stepsCheck c partner (before ++ after) = stepsCheck c partner after := by
  induction before with
  | nil => rfl
  | cons b bs ih =>
    rw [List.cons_append, stepsCheck, h b List.mem_cons_self]
    exact ih fun d hd => h d (List.mem_cons_of_mem b hd)

/-- The first step that fails gives the answer. -/
theorem stepsCheck_first {c : LaneConfig} {partner : LineNo → Option LineNo} {before after : List Step} {st : Step} {code : ResultCode}
    (h : ∀ b ∈ before, stepCheck c partner b = none) (hst : stepCheck c partner st = some code) :
    stepsCheck c partner (before ++ st :: after) = some code := by
  rw [stepsCheck_append h, stepsCheck, hst]

theorem stepsCheck_none_iff {c : LaneConfig} {partner : LineNo → Option LineNo} {steps : List Step} :
    stepsCheck c partner steps = none ↔ ∀ st ∈ steps, stepCheck c partner st = none := by
  induction steps with
  | nil => simp [stepsCheck]
  | cons st sts ih =>
    rw [stepsCheck, List.forall_mem_cons]
    cases stepCheck c partner st with
    | none => simpa using ih
    | some code => simp

/-! ### The checks of one entry -/

/-- A PLAY entry of a SEALED slot is refused for the first of its steps that fails. -/
theorem checkEntry_play_refused {id : Byte} {repeats : Half} {i : SlotNo} {code : ResultCode} (hi : slotOfCode id = some i)
    (hs : (s.slot i).state = .sealed) (hc : stepsCheck (s.lane n).config s.partner (s.slot i).steps = some code) :
    s.checkEntry n (.play id repeats) = .error code := by
  simp only [State.checkEntry, hi, hs, hc]

/-- Once the steps of a PLAY entry have passed, its repeats are left to check (R48). -/
theorem checkEntry_play_repeats {id : Byte} {repeats : Half} {i : SlotNo} (hi : slotOfCode id = some i) (hs : (s.slot i).state = .sealed)
    (hc : stepsCheck (s.lane n).config s.partner (s.slot i).steps = none) :
    s.checkEntry n (.play id repeats) = if repeats.toNat ≤ 255 then .ok (.play i repeats.toNat) else .error .badValue := by
  simp only [State.checkEntry, hi, hs, hc]

/-- A body that ENQUEUE accepts: each step that it plays is lawful, and its slot is SEALED (R44, R48). -/
theorem checkEntry_ok {e : RawEntry} {b : EntryBody} (h : s.checkEntry n e = .ok b) :
    BodyLawful s n b ∧ ∀ i k, b = .play i k → (s.slot i).state = .sealed := by
  cases e with
  | unknown kind => cases h
  | step raw =>
    simp only [State.checkEntry] at h
    split at h
    · cases h
    · next st _ =>
      split at h
      · cases h
      · next hc =>
        cases h
        exact ⟨stepLawful_of_stepCheck hc, fun i k h => nomatch h⟩
  | play id repeats =>
    cases hi : slotOfCode id with
    | none => simp only [State.checkEntry, hi] at h; cases h
    | some i =>
      cases hs : (s.slot i).state with
      | free => simp only [State.checkEntry, hi, hs] at h; cases h
      | opened => simp only [State.checkEntry, hi, hs] at h; cases h
      | sealed =>
        cases hc : stepsCheck (s.lane n).config s.partner (s.slot i).steps with
        | some code => rw [checkEntry_play_refused hi hs hc] at h; cases h
        | none =>
          rw [checkEntry_play_repeats hi hs hc] at h
          split at h
          · cases h
            exact ⟨fun st hst => stepLawful_of_stepCheck (stepsCheck_none_iff.1 hc st hst), fun j k hb => by cases hb; exact hs⟩
          · cases h

/-! ### The checks of the entries in turn -/

/-- The entries are accepted exactly when each is, each with its own body (R48). -/
theorem checkEntries_ok_iff {es : List RawEntry} {bs : List EntryBody} (k : Nat) :
    s.checkEntries n k es = .ok bs ↔ es.map (s.checkEntry n) = bs.map .ok := by
  induction es generalizing k bs with
  | nil => cases bs <;> simp [State.checkEntries]
  | cons e es ih =>
    rw [State.checkEntries]
    cases he : s.checkEntry n e with
    | error code => cases bs <;> simp [he]
    | ok b =>
      cases hes : s.checkEntries n (k + 1) es with
      | error x =>
        have hno : ∀ ds : List EntryBody, es.map (s.checkEntry n) ≠ ds.map .ok := fun ds hd => by
          rw [(ih (k + 1)).2 hd] at hes; cases hes
        cases bs <;> simp [he, hno]
      | ok ds =>
        have hds := (ih (k + 1)).1 hes
        have hinj : Function.Injective (Except.ok : EntryBody → Except ResultCode EntryBody) := fun _ _ h => by cases h; rfl
        cases bs with
        | nil => simp
        | cons c cs =>
          rw [List.map_cons, List.map_cons, he, hds]
          simp [(List.map_injective_iff.2 hinj).eq_iff]

/-- Entries that pass leave the answer to those behind them, and the first that fails gives its code and its index (R48). -/
theorem checkEntries_first {before after : List RawEntry} {e : RawEntry} {code : ResultCode}
    (h : ∀ b ∈ before, ∃ body, s.checkEntry n b = .ok body) (he : s.checkEntry n e = .error code) (k : Nat) :
    s.checkEntries n k (before ++ e :: after) = .error (code, k + before.length) := by
  induction before generalizing k with
  | nil => simp [State.checkEntries, he]
  | cons b bs ih =>
    obtain ⟨body, hb⟩ := h b List.mem_cons_self
    rw [List.cons_append, State.checkEntries, hb, ih fun d hd => h d (List.mem_cons_of_mem b hd)]
    simp only [List.length_cons, Nat.add_right_comm, Nat.add_assoc]

/-- An accepted ENQUEUE finds its lane in a state that takes entries, and room in its queue for each (R47, R48). -/
theorem enqueueCheck_ok {entries : List RawEntry} {bodies : List EntryBody} (h : enqueueCheck n entries s = .ok bodies) :
    (s.lane n).state.takesEntries = true ∧ bodies.length ≤ 16 - (s.lane n).queue.length
      ∧ ∀ b ∈ bodies, ∃ e, s.checkEntry n e = .ok b := by
  unfold enqueueCheck at h
  split at h
  · cases h
  · next hst =>
    split at h
    · cases h
    · next hroom =>
      have hmap := (checkEntries_ok_iff 0).1 h
      have hlen : entries.length = bodies.length := by simpa using congrArg List.length hmap
      refine ⟨by simpa using hst, ?_, fun b hb => ?_⟩
      · simp only [LaneRec.freeRoom, Config.queueDepth] at hroom
        omega
      · have : (Except.ok b : Except ResultCode EntryBody) ∈ entries.map (s.checkEntry n) := hmap ▸ List.mem_map_of_mem hb
        obtain ⟨e, -, he⟩ := List.mem_map.1 this
        exact ⟨e, he⟩

end Sys2Proof.Machine

/-! PROOFS. ENQUEUE: the accepted entries take serials and join the tail, and the slots that they name are counted (R40, R41, R49, R50). -/

namespace Sys2Proof.Machine

open Sys2Proof.Safety Sys2Proof.Spec

variable {n : LaneNo} {s t : State}

/-! ### What the acceptance of entries leaves -/

/-- One slot after an entry has been counted in it (R49). -/
theorem slot_raiseUse (s : State) (b : EntryBody) (i : SlotNo) :
    (s.raiseUse b).slot i = { s.slot i with useCount := (s.slot i).useCount + if EntryBody.names i b then 1 else 0 } := by
  cases b with
  | step _ => rfl
  | play j _ =>
    simp only [State.raiseUse, slot_updSlot, EntryBody.names, beq_iff_eq]
    by_cases h : i = j
    · simp [h]
    · simp [h, Ne.symm h]

theorem slot_raiseAll (bodies : List EntryBody) (s : State) (i : SlotNo) : (bodies.foldl State.raiseUse s).slot i =
    { s.slot i with useCount := (s.slot i).useCount + bodies.countP (EntryBody.names i) } := by
  induction bodies generalizing s with
  | nil => rfl
  | cons b bs ih =>
    rw [List.foldl_cons, ih, slot_raiseUse, List.countP_cons]
    simp only [Nat.add_assoc, Nat.add_comm (List.countP _ _)]

/-- Of the whole part the counting changes the slots alone. -/
theorem raiseAll_eq (bodies : List EntryBody) (s : State) :
    bodies.foldl State.raiseUse s = { s with slots := (bodies.foldl State.raiseUse s).slots } := by
  induction bodies generalizing s with
  | nil => rfl
  | cons b bs ih =>
    rw [List.foldl_cons, ih]
    cases b <;> rfl

@[simp] theorem lane_raiseAll (bodies : List EntryBody) (s : State) (m : LaneNo) : (bodies.foldl State.raiseUse s).lane m = s.lane m := by
  rw [raiseAll_eq]; rfl

/-- The accepting lane: the entries join the tail with their serials (R40, R49). -/
theorem lane_acceptEntries_self (s : State) (n : LaneNo) (bodies : List EntryBody) : (s.acceptEntries n bodies).lane n =
    { s.lane n with
      queue := (s.lane n).queue ++ numberEntries (s.lane n).nextSerial bodies
      nextSerial := (s.lane n).nextSerial + BitVec.ofNat 16 bodies.length } := by
  rw [State.acceptEntries, lane_updLane_self, lane_raiseAll]

theorem lane_acceptEntries_ne (s : State) {m : LaneNo} (bodies : List EntryBody) (h : m ≠ n) :
    (s.acceptEntries n bodies).lane m = s.lane m := by
  rw [State.acceptEntries, lane_updLane_ne _ _ _ _ h, lane_raiseAll]

theorem slot_acceptEntries (s : State) (n : LaneNo) (bodies : List EntryBody) (i : SlotNo) : (s.acceptEntries n bodies).slot i =
    { s.slot i with useCount := (s.slot i).useCount + bodies.countP (EntryBody.names i) } := by
  rw [State.acceptEntries, slot_updLane, slot_raiseAll]

/-- Of the whole part an acceptance changes its lane and the slots. -/
theorem acceptEntries_eq (s : State) (n : LaneNo) (bodies : List EntryBody) :
    s.acceptEntries n bodies = { s with lanes := (s.acceptEntries n bodies).lanes, slots := (s.acceptEntries n bodies).slots } := by
  unfold State.acceptEntries State.updLane
  rw [raiseAll_eq]

/-! ### Serials (R40, R41) -/

theorem length_numberEntries (bodies : List EntryBody) (serial : Half) : (numberEntries serial bodies).length = bodies.length := by
  induction bodies generalizing serial with
  | nil => rfl
  | cons b bs ih => rw [numberEntries, List.length_cons, ih, List.length_cons]

theorem countP_numberEntries (i : SlotNo) (bodies : List EntryBody) (serial : Half) :
    (numberEntries serial bodies).countP (fun e => EntryBody.names i e.body) = bodies.countP (EntryBody.names i) := by
  induction bodies generalizing serial with
  | nil => rfl
  | cons b bs ih => rw [numberEntries, List.countP_cons, ih, List.countP_cons]

theorem body_mem_of_numbered {bodies : List EntryBody} {serial : Half} {e : Entry} (h : e ∈ numberEntries serial bodies) :
    e.body ∈ bodies := by
  induction bodies generalizing serial with
  | nil => cases h
  | cons b bs ih =>
    rcases List.mem_cons.1 h with rfl | h
    · exact List.mem_cons_self
    · exact List.mem_cons_of_mem b (ih h)

theorem ofNat_succ (k : Nat) : BitVec.ofNat 16 (k + 1) = BitVec.ofNat 16 k + 1 := BitVec.ofNat_add k 1

/-- The k entries numbered from a serial on end just before the serial that is k later. -/
theorem serialsRun_numberEntries (bodies : List EntryBody) (serial : Half) :
    serialsRun (serial + BitVec.ofNat 16 bodies.length) (numberEntries serial bodies) := by
  induction bodies generalizing serial with
  | nil => trivial
  | cons b bs ih =>
    refine ⟨?_, ?_⟩
    · rw [length_numberEntries, List.length_cons]
      exact (add_sub_cancel_right serial _).symm
    · have := ih (serial + 1)
      rw [List.length_cons, ofNat_succ]
      rwa [add_assoc, add_comm 1] at this

/-- Numbered entries carry on a queue's serials (R41). -/
theorem serialsRun_append {next : Half} {queue : List Entry} (h : serialsRun next queue) (bodies : List EntryBody) :
    serialsRun (next + BitVec.ofNat 16 bodies.length) (queue ++ numberEntries next bodies) := by
  induction queue with
  | nil => exact serialsRun_numberEntries bodies next
  | cons e es ih =>
    obtain ⟨he, hes⟩ := h
    refine ⟨?_, ih hes⟩
    have hlen : (es ++ numberEntries next bodies).length + 1 = es.length + 1 + bodies.length := by
      rw [List.length_append, length_numberEntries, Nat.add_right_comm]
    change e.serial = next + BitVec.ofNat 16 bodies.length - BitVec.ofNat 16 ((es ++ numberEntries next bodies).length + 1)
    rw [he, hlen, BitVec.ofNat_add (es.length + 1)]
    exact (add_sub_add_right_eq_sub next (BitVec.ofNat 16 (es.length + 1)) (BitVec.ofNat 16 bodies.length)).symm

/-! ### What an acceptance keeps -/

/-- A slot that is named is SEALED, so that its use count may rise (R56, R64). -/
theorem slotSound_of_raised {x : Slot} {k : Nat} (hk : 0 < k → x.state = .sealed) (h : SlotSound x) :
    SlotSound { x with useCount := x.useCount + k } := by
  rcases Nat.eq_zero_or_pos k with rfl | hpos
  · exact h
  · unfold SlotSound at h ⊢
    simp only [hk hpos] at h ⊢
    exact h

theorem uses_acceptEntries (s : State) (n : LaneNo) (bodies : List EntryBody) (i : SlotNo) :
    uses i ((s.acceptEntries n bodies).lane n) = uses i (s.lane n) + bodies.countP (EntryBody.names i) := by
  rw [lane_acceptEntries_self]
  simp only [uses_eq, queuedUses, currentUses, List.countP_append, countP_numberEntries]
  omega

/-- A body that names a slot, among bodies whose slots are SEALED. -/
theorem sealed_of_named {bodies : List EntryBody} (hb : ∀ b ∈ bodies, ∀ i k, b = .play i k → (s.slot i).state = .sealed) {i : SlotNo}
    (h : 0 < bodies.countP (EntryBody.names i)) : (s.slot i).state = .sealed := by
  obtain ⟨b, hm, hn⟩ := List.countP_pos_iff.1 h
  cases b with
  | step _ => cases hn
  | play j k =>
    obtain rfl : j = i := by simpa [EntryBody.names] using hn
    exact hb _ hm j k rfl

theorem bodyStored_of_sealed {b : EntryBody} (hs : ∀ i, SlotSound (s.slot i)) (hb : ∀ i k, b = .play i k → (s.slot i).state = .sealed) :
    bodyStored s b := by
  cases b with
  | step _ => trivial
  | play i k =>
    have hsound := hs i
    rw [SlotSound, hb i k rfl] at hsound
    obtain ⟨heq, hpos, -⟩ := hsound
    exact hpos.trans_eq heq.symm

/-- Accepted entries keep all but the lane state of the accepting lane. -/
theorem stocked_acceptEntries {bodies : List EntryBody} (hroom : bodies.length ≤ 16 - (s.lane n).queue.length)
    (hb : ∀ b ∈ bodies, ∀ i k, b = .play i k → (s.slot i).state = .sealed) (h : Stocked s) : Stocked (s.acceptEntries n bodies) where
  slots i := by
    rw [slot_acceptEntries]
    exact slotSound_of_raised (sealed_of_named hb) (h.slots i)
  space := by
    have hr : (s.acceptEntries n bodies).reservedSteps = s.reservedSteps := reservedSteps_congr fun i => by rw [slot_acceptEntries]
    exact hr.trans_le h.space
  counted i := by
    have hsum := allUses_of_one_changed n (fun m hm => lane_acceptEntries_ne s bodies hm) i
    have huse := uses_acceptEntries s n bodies i
    rw [slot_acceptEntries, h.counted i]
    dsimp only
    omega
  sealedOnly i hi := by
    rw [slot_acceptEntries] at hi ⊢
    rcases Nat.eq_zero_or_pos (bodies.countP (EntryBody.names i)) with hz | hpos
    · exact h.sealedOnly i (by simpa [hz] using hi)
    · exact sealed_of_named hb hpos
  lanes m := by
    have hsteps : ∀ i, ((s.acceptEntries n bodies).slot i).steps = (s.slot i).steps := fun i => by rw [slot_acceptEntries]
    by_cases hm : m = n
    · subst hm
      obtain ⟨hlen, hser, hst, hcur⟩ := h.lanes m
      rw [lane_acceptEntries_self]
      refine laneFits_congr hsteps ⟨?_, serialsRun_append hser bodies, fun e he => ?_, hcur⟩
      · rw [List.length_append, length_numberEntries]
        omega
      · rcases List.mem_append.1 he with he | he
        · exact hst e he
        · exact bodyStored_of_sealed h.slots (hb _ (body_mem_of_numbered he))
    · rw [lane_acceptEntries_ne s bodies hm]
      exact laneFits_congr hsteps (h.lanes m)

theorem stepsLawful_acceptEntries {bodies : List EntryBody} (hb : ∀ b ∈ bodies, BodyLawful s n b) (h : StepsLawful s) :
    StepsLawful (s.acceptEntries n bodies) := by
  have hsteps : ∀ i, ((s.acceptEntries n bodies).slot i).steps = (s.slot i).steps := fun i => by rw [slot_acceptEntries]
  have hpart : ∀ l, (s.acceptEntries n bodies).partner l = s.partner l := fun l => by rw [acceptEntries_eq]; rfl
  intro m
  by_cases hm : m = n
  · subst hm
    refine laneLawful_congr (s := s) (by rw [lane_acceptEntries_self]) hpart hsteps ?_
    obtain ⟨hq, hc, hr⟩ := h m
    rw [lane_acceptEntries_self]
    refine ⟨fun e he => ?_, hc, hr⟩
    rcases List.mem_append.1 he with he | he
    · exact hq e he
    · exact hb _ (body_mem_of_numbered he)
  · rw [lane_acceptEntries_ne s bodies hm]
    exact laneLawful_congr (by rw [lane_acceptEntries_ne s bodies hm]) hpart hsteps (h m)

/-- A lane that takes entries, and is not STARVED, stays in shape with more of them. -/
theorem inShape_acceptEntries {bodies : List EntryBody} (hst : (s.lane n).state.takesEntries = true) (hns : (s.lane n).state ≠ .starved)
    (h : (s.lane n).inShape) : ((s.acceptEntries n bodies).lane n).inShape := by
  obtain ⟨⟨hrun, hcur, hempty, harmed⟩, hidle⟩ := h
  rw [lane_acceptEntries_self]
  refine ⟨⟨hrun, hcur, fun hs => ?_, fun hs => List.append_ne_nil_of_left_ne_nil (harmed hs) _⟩, hidle⟩
  rcases hs with hs | hs | hs | hs
  · rw [hs] at hst; cases hst
  · exact absurd hs hns
  · rw [hs] at hst; cases hst
  · rw [hs] at hst; cases hst

/-- ENQUEUE: an acceptance, and in STARVED stages 6 and 7 (R48 to R50). -/
theorem keepsPlay_enqueue (n : LaneNo) (entries : List RawEntry) (s : State) : KeepsPlay s (enqueueEffect n entries s).1 := by
  unfold enqueueEffect
  split
  · exact KeepsPlay.refl s
  · next bodies hok =>
    obtain ⟨hst, hroom, hchecked⟩ := enqueueCheck_ok hok
    intro h
    obtain ⟨hs, hi⟩ := (playSound_iff s).1 h
    have hsealed : ∀ b ∈ bodies, ∀ i k, b = .play i k → (s.slot i).state = .sealed := fun b hb => by
      obtain ⟨e, he⟩ := hchecked b hb
      exact (checkEntry_ok he).2
    have hlaw : ∀ b ∈ bodies, BodyLawful s n b := fun b hb => by
      obtain ⟨e, he⟩ := hchecked b hb
      exact (checkEntry_ok he).1
    have hacc := stocked_acceptEntries hroom hsealed hs
    have helse : ∀ m, m ≠ n → ((s.acceptEntries n bodies).lane m).inShape := fun m hm => by
      rw [lane_acceptEntries_ne s bodies hm]; exact hi m
    dsimp only
    unfold State.beginIfStarved
    split
    · next hstarved =>
      have hstate : (s.lane n).state = .starved := by rw [lane_acceptEntries_self] at hstarved; exact hstarved
      have hrun : ((s.acceptEntries n bodies).lane n).run = none := by
        rw [lane_acceptEntries_self]
        exact (hi n).noStep (by rw [hstate]; rfl)
      have hact := playAct_nextStep (s.acceptEntries n bodies) n true
      refine ⟨(playSound_iff _).2 ⟨hact.stocked hacc, fun m => ?_⟩, fun hl => hact.stepsLawful (stepsLawful_acceptEntries hlaw hl)⟩
      by_cases hm : m = n
      · subst hm; exact inShape_nextStep (hacc.lanes m) hrun true
      · rw [hact.lane m hm]; exact helse m hm
    · next hns =>
      refine ⟨(playSound_iff _).2 ⟨hacc, fun m => ?_⟩, stepsLawful_acceptEntries hlaw⟩
      by_cases hm : m = n
      · subst hm
        exact inShape_acceptEntries hst (fun hc => hns (by rw [lane_acceptEntries_self]; exact hc)) (hi m)
      · exact helse m hm

end Sys2Proof.Machine

/-! PROOFS. The events that leave the library and the lanes in play as they are, and the commands that write slots, records, pairs, or several
lanes. -/

namespace Sys2Proof.Machine

open Sys2Proof.Safety Sys2Proof.Spec

variable {n : LaneNo} {r : LaneRec} {s t u : State}

/-! ### Events beside the lanes and the library -/

/-- No lane, slot or partner field differs. -/
structure SamePlay (s t : State) : Prop where
  lanes : t.lanes = s.lanes := by rfl
  slots : t.slots = s.slots := by rfl
  partner : ∀ l, t.partner l = s.partner l := by exact fun _ => rfl

theorem SamePlay.lane (a : SamePlay s t) (m : LaneNo) : t.lane m = s.lane m := by simp only [State.lane, a.lanes]

theorem SamePlay.slot (a : SamePlay s t) (i : SlotNo) : t.slot i = s.slot i := by simp only [State.slot, a.slots]

theorem SamePlay.trans (a : SamePlay s t) (b : SamePlay t u) : SamePlay s u :=
  ⟨b.lanes.trans a.lanes, b.slots.trans a.slots, fun l => (b.partner l).trans (a.partner l)⟩

/-- `Stocked` reads of a lane its queue, its current entry and its next serial alone. -/
theorem Stocked.ofRecords (hs : SlotsKept s t) (hl : ∀ m, ∃ c st x, t.lane m = { s.lane m with config := c, state := st, run := x })
    (h : Stocked s) : Stocked t where
  slots i := by rw [hs i]; exact h.slots i
  space := by
    have hr : t.reservedSteps = s.reservedSteps := reservedSteps_congr fun i => by rw [hs i]
    exact hr.trans_le h.space
  counted i := by
    have hu : allUses t i = allUses s i := by
      refine congrArg List.sum (List.map_congr_left fun m _ => ?_)
      obtain ⟨c, st, x, hm⟩ := hl m
      rw [hm]; rfl
    rw [hs i, hu]
    exact h.counted i
  sealedOnly i hi := by rw [hs i] at hi ⊢; exact h.sealedOnly i hi
  lanes m := by
    obtain ⟨c, st, x, hm⟩ := hl m
    obtain ⟨hroom, hser, hst, hcur⟩ := h.lanes m
    rw [hm]
    exact laneFits_congr (fun i => by rw [hs i]) ⟨hroom, hser, hst, hcur⟩

theorem keepsPlay_of_readings (hl : ∀ m, t.lane m = s.lane m) (hs : SlotsKept s t) (hp : ∀ l, t.partner l = s.partner l) : KeepsPlay s t := by
  intro h
  obtain ⟨hst, hi⟩ := (playSound_iff s).1 h
  refine ⟨(playSound_iff t).2 ⟨hst.ofRecords hs fun m => ⟨_, _, _, hl m⟩, fun m => by rw [hl m]; exact hi m⟩, fun hw m => ?_⟩
  rw [hl m]
  exact laneLawful_congr (by rw [hl m]) hp (fun i => by rw [hs i]) (hw m)

theorem SamePlay.keeps (a : SamePlay s t) : KeepsPlay s t := keepsPlay_of_readings a.lane a.slot a.partner

theorem samePlay_draw (s : State) : SamePlay s s.draw.2 := by
  unfold State.draw; split <;> exact {}

theorem samePlay_offer (s : State) (x : Report) : SamePlay s (s.offer x) := ⟨offer_lanes s x, offer_slots s x, partner_offer s x⟩

theorem samePlay_offerAll (s : State) : SamePlay s s.offerAll := by
  rw [offerAll_eq]; exact {}

/-- A line changes, but not its partner field. -/
theorem samePlay_updLine {l : LineNo} {f : LineRec → LineRec} (h : (f (s.line l)).partner = (s.line l).partner) : SamePlay s (s.updLine l f) :=
  { partner := fun k => by
      rw [State.partner, line_updLine]
      split
      · next hk => rw [h, hk]; rfl
      · rfl }

theorem samePlay_handOn (s : State) (f : Frame) : SamePlay s (s.handOn f) := by
  unfold State.handOn
  split
  · exact {}
  · split <;> exact {}

theorem samePlay_acceptFrame (s : State) (f : Frame) : SamePlay s (s.acceptFrame f) := by
  have h := samePlay_handOn { s with keepalive := s.keepalive.restart } f
  exact ⟨h.lanes, h.slots, h.partner⟩

theorem samePlay_assemble (s : State) (buffer : List Byte) : SamePlay s (s.assemble buffer) := by
  unfold State.assemble
  split
  · exact {}
  · split
    · exact {}
    · split
      · exact {}
      · split
        · exact samePlay_acceptFrame s _
        · exact {}

theorem samePlay_receiveByte (s : State) (b : Byte) : SamePlay s (s.receiveByte b) := by
  unfold State.receiveByte
  split
  · split <;> exact {}
  · exact samePlay_assemble s _

theorem samePlay_sendNext (s : State) : SamePlay s s.sendNext := by
  unfold State.sendNext
  split <;> exact {}

theorem samePlay_adopt (s : State) (input : FilteredInput) (level : Level) : SamePlay s (s.adopt input level) := by
  cases input with
  | trigger i => simp only [State.adopt]; split <;> exact {}
  | syncN => simp only [State.adopt]; split <;> exact {}
  | killN =>
    simp only [State.adopt]
    split
    · exact {}
    · split <;> exact {}

/-- The rows of the receiver. -/
theorem samePlay_receiver : (∀ c, execCharacterReceived c s = .next t → SamePlay s t) ∧ (execStartBitRecognized s = .next t → SamePlay s t)
    ∧ (execGapExpiry s = .next t → SamePlay s t) ∧ ∀ f, execValidFrame f s = .next t → SamePlay s t := by
  refine ⟨fun c h => ?_, fun h => ?_, fun h => ?_, fun f h => ?_⟩
  · unfold execCharacterReceived at h
    split at h
    · cases h; exact {}
    · by_cases hstart : s.hearsStart (if c.startBit then 0 else 1) = false
      · rw [if_pos hstart] at h
        cases h; exact {}
      · rw [if_neg hstart] at h
        split at h
        · cases h; exact {}
        · split at h
          · cases h; exact {}
          · cases h; exact {}
          · cases h
            have h' := samePlay_receiveByte (s.endCharacter none) c.data
            exact ⟨h'.lanes, h'.slots, h'.partner⟩
  · unfold execStartBitRecognized at h
    split at h
    · cases h; exact {}
    · split at h <;> · cases h; exact {}
  · unfold execGapExpiry at h
    split at h <;> · cases h; exact {}
  · unfold execValidFrame at h
    split at h
    · cases h; exact {}
    · cases h
      have h' := samePlay_acceptFrame (s.endCharacter none) f
      exact ⟨h'.lanes, h'.slots, h'.partner⟩

/-- The rows of the Command Processor, of the transmitter and of the release of the part. -/
theorem samePlay_processor : (execFrameTake s = .next t → SamePlay s t) ∧ (execCommandCompletion s = .next t → SamePlay s t)
    ∧ (execTransmissionEnd s = .next t → SamePlay s t) ∧ (∀ straps, execResetRelease straps s = .next t → SamePlay s t)
    ∧ (execStartUpEvent s = .next t → SamePlay s t) := by
  refine ⟨fun h => ?_, fun h => ?_, fun h => ?_, fun straps h => ?_, fun h => ?_⟩
  · unfold execFrameTake at h
    split at h
    · split at h
      · cases h
        have hd := (samePlay_draw s).trans (samePlay_draw _)
        exact ⟨hd.lanes, hd.slots, hd.partner⟩
      · cases h; exact {}
    · cases h; exact {}
  · unfold execCommandCompletion at h
    split at h
    · split at h
      · cases h
        have ho := samePlay_offerAll s
        exact ⟨ho.lanes, ho.slots, ho.partner⟩
      · cases h; exact {}
    · cases h; exact {}
  · unfold execTransmissionEnd at h
    split at h
    · cases h; exact samePlay_sendNext s
    · cases h; exact {}
  · unfold execResetRelease at h
    split at h <;> · cases h; exact {}
  · unfold execStartUpEvent at h
    split at h
    · cases h
      have h1 := samePlay_offer s (.notice .resetDone)
      have h2 := h1.trans (samePlay_offer _ (.notice .killAsserted))
      split
      · exact ⟨h2.lanes, h2.slots, h2.partner⟩
      · exact ⟨h1.lanes, h1.slots, h1.partner⟩
    · cases h; exact {}

/-- The rows of the inputs, of the sync line, of KILL_N and of the keepalive. -/
theorem samePlay_inputs : (∀ i e, execTriggerEdge i e s = .next t → SamePlay s t) ∧ (execSyncEdge s = .next t → SamePlay s t)
    ∧ (execSyncLowToHigh s = .next t → SamePlay s t) ∧ (execSyncPulseExpiry s = .next t → SamePlay s t)
    ∧ (∀ input level, execFilterLevelAdopted input level s = .next t → SamePlay s t) ∧ (execKillAssertion s = .next t → SamePlay s t)
    ∧ (execKillRelease s = .next t → SamePlay s t) ∧ (execKeepaliveExpiry s = .next t → SamePlay s t) := by
  refine ⟨fun i e h => ?_, fun h => ?_, fun h => ?_, fun h => ?_, fun input level h => ?_, fun h => ?_, fun h => ?_, fun h => ?_⟩
  · unfold execTriggerEdge at h
    split at h <;> · cases h; exact {}
  · unfold execSyncEdge at h
    split at h <;> · cases h; exact {}
  · unfold execSyncLowToHigh at h
    split at h <;> · cases h; exact {}
  · unfold execSyncPulseExpiry at h
    split at h <;> · cases h; exact {}
  · unfold execFilterLevelAdopted at h
    split at h
    · cases h; exact {}
    · cases h; exact samePlay_adopt s input level
  · unfold execKillAssertion at h
    split at h
    · cases h; exact {}
    · cases h
      dsimp only
      split <;> exact {}
  · unfold execKillRelease at h
    split at h
    · cases h; exact {}
    · cases h
      dsimp only
      split <;> exact {}
  · unfold execKeepaliveExpiry at h
    split at h <;> · cases h; exact {}

theorem samePlay_guardExpiry {l : LineNo} (h : execGuardExpiry l s = .next t) : SamePlay s t := by
  unfold execGuardExpiry at h
  split at h
  · split at h <;> cases h
    · have hu := samePlay_updLine (s := s) (l := l) (f := fun r => { r with state := .inactive }) rfl
      exact ⟨hu.lanes, hu.slots, hu.partner⟩
    · exact samePlay_updLine rfl
    · exact samePlay_updLine rfl
  · cases h; exact {}

theorem samePlay_configLine (line polarity safeLevel : Byte) (s : State) : SamePlay s (configLineEffect line polarity safeLevel s).1 := by
  unfold configLineEffect
  split
  · next _ p v _ _ _ =>
    split
    · exact {}
    · exact samePlay_updLine (s := s) (f := fun r => { r with polarity := p, safeLevel := v }) rfl
  · exact {}

theorem samePlay_getStatus (scope arg : Byte) (s : State) : SamePlay s (getStatusEffect scope arg s).1 := by
  unfold getStatusEffect
  split
  · unfold State.clearedBy
    split <;> exact {}
  · exact {}

theorem samePlay_setLink (rate parity : Byte) (window : Half) (s : State) : SamePlay s (setLinkEffect rate parity window s).1 := by
  unfold setLinkEffect
  split
  · split <;> exact {}
  · exact {}

theorem samePlay_pulseSync (s : State) : SamePlay s (pulseSyncEffect s).1 := by
  unfold pulseSyncEffect
  split <;> exact {}

/-! ### Events in flight -/

/-- An event in flight is taken, with others that then stand. -/
theorem keepsPlay_take (s : State) (standing : List SetOff) (e : SetOff) : KeepsPlay s (State.take { s with setOff := standing } e) := by
  have hs : KeepsPlay s { s with setOff := standing } := SamePlay.keeps {}
  refine hs.trans ?_
  cases e with
  | leaderBoundary m => exact (playTurn_advanceBy _ m _ _).keeps
  | edge m e => exact (playTurn_edgeAt _ m e).keeps
  | syncEdge m => exact (playTurn_syncLane _ m).keeps
  | safe m c => exact (playTurn_enterSafe _ m c).keeps
  | reports rs =>
    cases rs with
    | nil => exact KeepsPlay.refl _
    | cons x _ => exact (samePlay_offer _ x).keeps

theorem keepsPlay_takeFirst (s : State) (p : SetOff → Bool) : KeepsPlay s (s.takeFirst p) := by
  rcases takeFirst_cases s p with h | ⟨e, -, -, h⟩
  · rw [h]; exact KeepsPlay.refl s
  · rw [h]; exact keepsPlay_take s _ e

/-! ### The sequence library -/

/-- A record that uses no slot i names it nowhere. -/
theorem names_false_of_unused {i : SlotNo} (h : uses i r = 0) :
    (∀ e ∈ r.queue, EntryBody.names i e.body = false) ∧ ∀ c, r.current = some c → EntryBody.names i c.entry.body = false := by
  rw [uses_eq, Nat.add_eq_zero_iff, currentUses, queuedUses, List.countP_eq_zero] at h
  refine ⟨fun e he => by simpa using h.2 e he, fun c hc => ?_⟩
  have := h.1
  rw [hc] at this
  simpa using this

/-- What a body that does not name slot i says is left alone when that slot changes. -/
theorem body_updSlot {i : SlotNo} {f : Slot → Slot} {b : EntryBody} (h : EntryBody.names i b = false) :
    (bodyStored (s.updSlot i f) b ↔ bodyStored s b) ∧ (BodyLawful (s.updSlot i f) n b ↔ BodyLawful s n b) := by
  cases b with
  | step _ => exact ⟨Iff.rfl, Iff.rfl⟩
  | play j k =>
    have hj : j ≠ i := by simpa [EntryBody.names] using h
    simp only [bodyStored, BodyLawful, slot_updSlot_ne _ _ _ _ hj]
    exact ⟨trivial, Iff.rfl⟩

theorem cursorFits_updSlot {i : SlotNo} {f : Slot → Slot} {c : Current} (h : EntryBody.names i c.entry.body = false) :
    cursorFits (s.updSlot i f) c ↔ cursorFits s c := by
  unfold cursorFits
  split
  · exact Iff.rfl
  · next j k hb =>
    have hj : j ≠ i := by simpa [hb, EntryBody.names] using h
    rw [slot_updSlot_ne _ _ _ _ hj]

/-- A slot that no entry names changes, within the library's space (R55, R56). -/
theorem keepsPlay_updSlot {i : SlotNo} {f : Slot → Slot} (h : PlaySound s → (s.slot i).useCount = 0 ∧ (f (s.slot i)).useCount = 0
      ∧ SlotSound (f (s.slot i)) ∧ s.reservedSteps + (f (s.slot i)).reserved ≤ 512 + (s.slot i).reserved) :
    KeepsPlay s (s.updSlot i f) := by
  intro hp
  obtain ⟨hzero, hzero', hsound, hspace⟩ := h hp
  obtain ⟨hs, hi⟩ := (playSound_iff s).1 hp
  have hunused : ∀ m, uses i (s.lane m) = 0 := fun m => by
    have := uses_le_allUses s m i
    rw [← hs.counted i, hzero] at this
    exact Nat.le_zero.1 this
  have hnames := fun m => names_false_of_unused (hunused m)
  refine ⟨(playSound_iff _).2 ⟨⟨fun j => ?_, ?_, fun j => ?_, fun j hj => ?_, fun m => ?_⟩, hi⟩, fun hw m => ?_⟩
  · rw [slot_updSlot]
    split
    · exact hsound
    · exact hs.slots j
  · have hsum := sum_of_one_changed (f := fun j => (s.slot j).reserved) (g := fun j => ((s.updSlot i f).slot j).reserved) i fun j hj => by
      rw [slot_updSlot_ne _ _ _ _ hj]
    rw [slot_updSlot_self] at hsum
    change (s.updSlot i f).reservedSteps + _ = s.reservedSteps + _ at hsum
    omega
  · change _ = allUses s j
    rw [← hs.counted j, slot_updSlot]
    split
    · next hj => rw [hj, hzero, hzero']
    · rfl
  · rw [slot_updSlot] at hj ⊢
    split
    · next hji => rw [if_pos hji, hzero'] at hj; exact absurd hj (lt_irrefl 0)
    · next hji => rw [if_neg hji] at hj; exact hs.sealedOnly j hj
  · obtain ⟨hroom, hser, hst, hcur⟩ := hs.lanes m
    obtain ⟨hnq, hnc⟩ := hnames m
    exact ⟨hroom, hser, fun e he => (body_updSlot (n := m) (hnq e he)).1.2 (hst e he), fun c hc => (cursorFits_updSlot (hnc c hc)).2 (hcur c hc)⟩
  · obtain ⟨hq, hc, hr⟩ := hw m
    obtain ⟨hnq, hnc⟩ := hnames m
    exact ⟨fun e he => (body_updSlot (hnq e he)).2.2 (hq e he), fun c hcur => (body_updSlot (hnc c hcur)).2.2 (hc c hcur), hr⟩

theorem keepsPlay_openSeq (id length : Byte) (s : State) : KeepsPlay s (openSeqEffect id length s).1 := by
  unfold openSeqEffect
  split
  · exact KeepsPlay.refl s
  · next i _ =>
    split
    · exact KeepsPlay.refl s
    · next hfree =>
      split
      · exact KeepsPlay.refl s
      · next hlen =>
        split
        · exact KeepsPlay.refl s
        · next hroom =>
          refine keepsPlay_updSlot fun hp => ?_
          have hsound := hp.1.1 i
          rw [SlotSound, not_not.1 hfree] at hsound
          obtain ⟨hd, hst, hu⟩ := hsound
          have hpos : length.toNat ≠ 0 := fun h0 => hlen (Or.inl (BitVec.eq_of_toNat_eq h0))
          have hle : length.toNat ≤ 64 := Nat.not_lt.1 fun h => hlen (Or.inr h)
          have hspace := hp.1.2.1
          simp only [State.freeSpace, Config.librarySteps] at hroom
          refine ⟨hu, hu, ⟨Nat.pos_of_ne_zero hpos, hle, hu⟩, ?_⟩
          change s.reservedSteps + length.toNat ≤ _
          omega

theorem length_stepsOfRaw {raw : List RawStep} {steps : List Step} (h : stepsOfRaw raw = some steps) : steps.length = raw.length := by
  induction raw generalizing steps with
  | nil => cases h; rfl
  | cons x xs ih =>
    unfold stepsOfRaw at h
    split at h
    · next hxs => cases h; rw [List.length_cons, List.length_cons, ih hxs]
    · cases h

/-- Steps that an OPEN slot has room for leave it OPEN, or fill it (R56, R60). -/
theorem slotSound_append {x : Slot} {steps : List Step} (ho : x.state = .opened) (hroom : x.filled + steps.length ≤ x.reserved)
    (h : SlotSound x) : SlotSound (x.append steps) := by
  rw [SlotSound, ho] at h
  obtain ⟨hlt, hle, hu⟩ := h
  have hlen : (x.steps ++ steps).length ≤ x.reserved := by rw [List.length_append]; exact hroom
  by_cases hfull : (x.steps ++ steps).length = x.reserved
  · have hstate : (x.append steps).state = .sealed := if_pos hfull
    rw [SlotSound, hstate]
    exact ⟨hfull, Nat.one_le_of_lt hlt, hle⟩
  · have hstate : (x.append steps).state = .opened := if_neg hfull
    rw [SlotSound, hstate]
    exact ⟨Nat.lt_of_le_of_ne hlen hfull, hle, hu⟩

theorem keepsPlay_appendSeq (id offset : Byte) (raw : List RawStep) (s : State) : KeepsPlay s (appendSeqEffect id offset raw s).1 := by
  unfold appendSeqEffect
  split
  · exact KeepsPlay.refl s
  · next i _ =>
    dsimp only
    split
    · exact KeepsPlay.refl s
    · exact KeepsPlay.refl s
    · next hopen =>
      split
      · exact KeepsPlay.refl s
      · split
        · exact KeepsPlay.refl s
        · next hroom =>
          split
          · exact KeepsPlay.refl s
          · next steps hsteps =>
            refine keepsPlay_updSlot fun hp => ?_
            have hsound := hp.1.1 i
            have hu : (s.slot i).useCount = 0 := by
              rw [SlotSound, hopen] at hsound
              exact hsound.2.2
            have hlen := length_stepsOfRaw hsteps
            have hspace : s.reservedSteps ≤ 512 := hp.1.2.1
            refine ⟨hu, hu, slotSound_append hopen (by omega) hsound, ?_⟩
            change s.reservedSteps + (s.slot i).reserved ≤ _
            omega

theorem keepsPlay_deleteSeq (id : Byte) (s : State) : KeepsPlay s (deleteSeqEffect id s).1 := by
  unfold deleteSeqEffect
  split
  · exact KeepsPlay.refl s
  · next i _ =>
    split
    · exact KeepsPlay.refl s
    · split
      · exact KeepsPlay.refl s
      · next hu =>
        refine keepsPlay_updSlot fun hp => ?_
        have hspace : s.reservedSteps ≤ 512 := hp.1.2.1
        refine ⟨not_not.1 hu, rfl, ⟨rfl, rfl, rfl⟩, ?_⟩
        change s.reservedSteps + 0 ≤ _
        omega

/-! ### Records and pairs -/

theorem laneLawful_of_bare (m : LaneNo) (h : r.bare) : LaneLawful s m r := by
  obtain ⟨hq, hc, hr⟩ := h
  refine ⟨fun e he => ?_, fun c h => ?_, fun x h => ?_⟩
  · rw [hq] at he; cases he
  · rw [hc] at h; cases h
  · rw [hr] at h; cases h

/-- The record of a lane that holds nothing is written, and its state comes to one that holds nothing (R34, R140). -/
theorem keepsPlay_rewrite {c : LaneConfig} {st : LaneState} (hst : st = .off ∨ st = .idle)
    (hb : (s.lane n).inShape → (s.lane n).bare) (hl : t.lane n = { s.lane n with config := c, state := st })
    (helse : ∀ m, m ≠ n → t.lane m = s.lane m) (hs : SlotsKept s t) (hp : ∀ l, t.partner l = s.partner l) : KeepsPlay s t := by
  intro h
  obtain ⟨hstock, hi⟩ := (playSound_iff s).1 h
  have hbare : (t.lane n).bare := by rw [hl]; exact hb (hi n)
  refine ⟨(playSound_iff t).2 ⟨hstock.ofRecords hs fun m => ?_, fun m => ?_⟩, fun hw m => ?_⟩
  · by_cases hm : m = n
    · subst hm; exact ⟨c, st, (s.lane m).run, hl⟩
    · exact ⟨_, _, _, helse m hm⟩
  · by_cases hm : m = n
    · subst hm
      rcases hst with rfl | rfl
      · exact inShape_bare (Or.inl (by rw [hl])) hbare
      · exact inShape_idle (by rw [hl]) hbare.2.1 hbare.2.2
    · rw [helse m hm]; exact hi m
  · by_cases hm : m = n
    · subst hm; exact laneLawful_of_bare m hbare
    · rw [helse m hm]
      exact laneLawful_congr (by rw [helse m hm]) hp (fun i => by rw [hs i]) (hw m)

/-- A lane in OFF, IDLE or SAFE without a queue holds nothing (Table 5-1). -/
theorem bare_of_inShape (hs : (r.state = .off ∨ r.state = .idle) ∨ r.state = .safe) (hq : r.queue = []) (h : r.inShape) : r.bare := by
  rcases hs with (hs | hs) | hs
  all_goals exact ⟨hq, h.2 (by rw [hs]; rfl), h.noStep (by rw [hs]; rfl)⟩

theorem keepsPlay_configLane (n : LaneNo) (raw : RawConfig) (s : State) : KeepsPlay s (configLaneEffect n raw s).1 := by
  refine (keepsPlay_takeFirst s (SetOff.holds n)).trans ?_
  unfold configLaneEffect configureEffect
  split
  · exact KeepsPlay.refl _
  · next c hok =>
    obtain ⟨hst, hq, -⟩ := configLaneCheck_ok hok
    refine keepsPlay_rewrite (n := n) (c := c) (st := if c.lines = 0 then .off else .idle) (by split <;> simp)
      (bare_of_inShape (Or.inl hst) hq) (lane_configure_self _ n c) (fun m hm => lane_configure_ne _ c hm) (fun i => ?_) (partner_configure _ n c)
    rw [configure_eq]
    rfl

theorem keepsPlay_clearFault (n : LaneNo) (s : State) : KeepsPlay s (clearFaultEffect n s).1 := by
  unfold clearFaultEffect
  split
  · exact KeepsPlay.refl s
  · next hs =>
    split
    · exact KeepsPlay.refl s
    · have hsafe := not_not.1 hs
      exact keepsPlay_rewrite (c := (s.lane n).config) (Or.inr rfl)
        (fun hi => bare_of_inShape (Or.inr hsafe) (hi.1.2.2.1 (Or.inr (Or.inr (Or.inr hsafe)))) hi) (lane_clearSafe_self s n)
        (fun m hm => lane_clearSafe_ne s hm) (fun _ => rfl) (partner_clearSafe s n)

/-- Where every step that lane m may play stays one, its record stays lawful. -/
theorem laneLawful_mono {m : LaneNo} (hst : ∀ st, StepLawful s m st → StepLawful t m st) (hs : ∀ i, (t.slot i).steps = (s.slot i).steps)
    (h : LaneLawful s m r) : LaneLawful t m r := by
  have hbody : ∀ b, BodyLawful s m b → BodyLawful t m b := by
    rintro (st | ⟨i, k⟩) hb
    · exact hst st hb
    · exact fun st hm => hst st (hb st (hs i ▸ hm))
  obtain ⟨hq, hc, hr⟩ := h
  exact ⟨fun e he => hbody _ (hq e he), fun c hcur => hbody _ (hc c hcur), fun x hx => hst _ (hr x hx)⟩

/-- What a command keeps, with the records sound: as `KeepsPlay`, but the law of the steps rests on the owners (R29, R44). -/
def KeepsPlayWith (s t : State) : Prop := PlaySound s → PlaySound t ∧ (ConfigSound s → StepsLawful s → StepsLawful t)

theorem KeepsPlay.with (a : KeepsPlay s t) : KeepsPlayWith s t := fun h => ⟨(a h).1, fun _ => (a h).2⟩

/-- Partner fields change: what there is to check is the law of the steps. -/
theorem keepsPlayWith_repair (hl : ∀ m, t.lane m = s.lane m) (hs : SlotsKept s t)
    (hw : ConfigSound s → ∀ m, (s.lane m).inShape → (s.lane m).bare ∨ ∀ st, StepLawful s m st → StepLawful t m st) :
    KeepsPlayWith s t := by
  intro h
  obtain ⟨hstock, hi⟩ := (playSound_iff s).1 h
  refine ⟨(playSound_iff t).2 ⟨hstock.ofRecords hs fun m => ⟨_, _, _, hl m⟩, fun m => by rw [hl m]; exact hi m⟩, fun hc hlaw m => ?_⟩
  rw [hl m]
  rcases hw hc m (hi m) with hb | hst
  · exact laneLawful_of_bare m hb
  · exact laneLawful_mono hst (fun i => by rw [hs i]) (hlaw m)

/-- A new pair binds no step in play: the owner of either line, if it has one, is quiet, and no other lane's step holds the line (R15, R29). -/
theorem keepsPlayWith_setPair (a b : Byte) (s : State) : KeepsPlayWith s (setPairEffect a b s).1 := by
  unfold setPairEffect
  split
  · next x y _ _ =>
    split
    · exact (KeepsPlay.refl s).with
    · next hxy =>
      split
      · exact (KeepsPlay.refl s).with
      · split
        · exact (KeepsPlay.refl s).with
        · next hquiet =>
          split
          · exact (KeepsPlay.refl s).with
          · refine keepsPlayWith_repair (fun _ => rfl) (fun _ => rfl) fun ⟨_, howns, _⟩ m hi => ?_
            by_cases hown : (s.line x).owner = some m
            · obtain ⟨hst, hq⟩ := (ownerQuiet_iff s x).1 (by simpa using (not_or.1 hquiet).1) m hown
              exact Or.inl (bare_of_inShape (or_assoc.2 hst) hq hi)
            · refine Or.inr fun st ⟨hsub, hpair⟩ => ⟨hsub, (holdsPair_false_iff _ _).2 fun l p hl hp => ?_⟩
              have hx : ¬ lineIn st.active x = true := fun hin => hown ((howns x m).2 ((lineSubset_iff _ _).1 hsub x hin))
              rw [partner_pairLines s hxy] at hp
              split at hp
              · next hlx => exact absurd (hlx ▸ hl) hx
              · split at hp
                · cases hp; simpa using hx
                · exact (holdsPair_false_iff _ _).1 hpair l p hl hp
  · exact (KeepsPlay.refl s).with

theorem keepsPlayWith_clearPair (a : Byte) (s : State) : KeepsPlayWith s (clearPairEffect a s).1 := by
  unfold clearPairEffect
  split
  · split
    · next x _ y hxy =>
      split
      · exact (KeepsPlay.refl s).with
      · refine keepsPlayWith_repair (fun _ => rfl) (fun _ => rfl) fun ⟨hagree, _⟩ m _ => Or.inr fun st ⟨hsub, hpair⟩ => ⟨hsub, ?_⟩
        refine (holdsPair_false_iff _ _).2 fun l p hl hp => ?_
        rw [partner_unpairLines s (ne_of_partners hagree hxy)] at hp
        split at hp
        · cases hp
        · exact (holdsPair_false_iff _ _).1 hpair l p hl hp
    · exact (KeepsPlay.refl s).with
  · exact (KeepsPlay.refl s).with

/-! ### Several lanes in one event -/

/-- The lanes of a START that passes its checks have entries (R72). -/
theorem queued_of_startFailure {ns : List LaneNo} (h : s.startFailure ns = none) : ∀ m ∈ ns, (s.lane m).queue ≠ [] := by
  induction ns with
  | nil => simp
  | cons m ns ih =>
    unfold State.startFailure at h
    split at h
    · cases h
    · split at h
      · cases h
      · next hq =>
        intro k hk
        rcases List.mem_cons.1 hk with rfl | hk
        · exact hq
        · exact ih h k hk

/-- Lanes that are ready, each once, act one after the other: each finds itself as it was. -/
theorem keepsPlay_eachLane {act : State → LaneNo → State} {ready : LaneRec → Prop} (hact : ∀ v m, LaneAct m v (act v m))
    (hturn : ∀ v m, ready (v.lane m) → PlayTurn m v (act v m)) {ns : List LaneNo} (hd : ns.Nodup) (hr : ∀ m ∈ ns, ready (s.lane m)) :
    KeepsPlay s (ns.foldl act s) := by
  induction ns generalizing s with
  | nil => exact KeepsPlay.refl s
  | cons m ns ih =>
    obtain ⟨hm, hns⟩ := List.nodup_cons.1 hd
    refine (hturn s m (hr m List.mem_cons_self)).keeps.trans (ih hns fun k hk => ?_)
    rw [(hact s m).lane k fun e => hm (e ▸ hk)]
    exact hr k (List.mem_cons_of_mem m hk)

/-- IDLE with entries queued (R72). -/
def LaneRec.startable (r : LaneRec) : Prop := r.state = .idle ∧ r.queue ≠ []

theorem playTurn_startNow {m : LaneNo} (h : (s.lane m).startable) : PlayTurn m s (s.beginHead m) :=
  playTurn_beginHead (by rw [h.1]; rfl) h.2

theorem playTurn_arm {m : LaneNo} (h : (s.lane m).startable) : PlayTurn m s (s.setLaneState m .armed) := by
  intro _ hi
  obtain ⟨hs, hq⟩ := h
  refine ⟨playAct_setLaneState s m _, ?_⟩
  rw [lane_setLaneState_self]
  exact inShape_armed rfl hq (hi.2 (by rw [hs]; rfl)) (hi.noStep (by rw [hs]; rfl))

theorem nodup_lanesOf (lanes : LaneSet) : (lanesOf lanes).Nodup := (List.nodup_finRange 4).filter _

theorem keepsPlay_takeFirsts (ns : List LaneNo) (s : State) : KeepsPlay s (ns.foldl (fun t n => t.takeFirst (SetOff.blocks n)) s) := by
  induction ns generalizing s with
  | nil => exact KeepsPlay.refl s
  | cons m ns ih => exact (keepsPlay_takeFirst s _).trans (ih _)

theorem keepsPlay_start (lanes : LaneSet) (mode : Byte) (s : State) : KeepsPlay s (startEffect lanes mode s).1 := by
  refine (keepsPlay_takeFirsts (lanesOf lanes) s).trans ?_
  unfold startEffect startLanesEffect
  split
  · exact KeepsPlay.refl _
  · exact KeepsPlay.refl _
  · next m _ _ _ hlanes =>
    split
    · exact KeepsPlay.refl _
    · next hok =>
      have hready := fun k hk => (⟨idle_of_startFailure hok k hk, queued_of_startFailure hok k hk⟩ : LaneRec.startable _)
      have hd := hlanes ▸ nodup_lanesOf lanes
      cases m with
      | now => exact keepsPlay_eachLane laneAct_beginHead (fun _ _ => playTurn_startNow) hd hready
      | onSync => exact keepsPlay_eachLane (fun v k => laneAct_setLaneState v k .armed) (fun _ _ => playTurn_arm) hd hready

theorem keepsPlay_abort (lanes : LaneSet) (s : State) : KeepsPlay s (abortEffect lanes s).1 := by
  have hall : ∀ (ns : List LaneNo) (v : State), KeepsPlay v (ns.foldl (fun t n => t.enterSafe n .abort) v) := by
    intro ns
    induction ns with
    | nil => exact KeepsPlay.refl
    | cons m ns ih => exact fun v => (playTurn_enterSafe v m .abort).keeps.trans (ih _)
  unfold abortEffect
  split
  · exact KeepsPlay.refl s
  · refine (hall (s.abortTargets lanes) s).trans ?_
    dsimp only
    unfold State.joinReports
    split <;> exact SamePlay.keeps {}

end Sys2Proof.Machine

/-! PROOFS. Every row of the opcode table, and every step, keeps the library and the lanes in play. -/

namespace Sys2Proof.Machine

open Sys2Proof.Safety Sys2Proof.Spec

variable {s t u : State}

/-! ### Resets -/

/-- Nothing is in play after a reset (R165, R166), whatever was before it. -/
theorem keepsPlay_of_reset (a : SamePlay State.reset t) : KeepsPlay s t := fun _ => by
  obtain ⟨hp, hw⟩ := a.keeps ⟨librarySound_reset, lanesSound_reset⟩
  exact ⟨hp, fun _ => hw stepsLawful_reset⟩

theorem keepsPlay_pinReset (h : execPinReset s = .next t) : KeepsPlay s t := by
  cases h
  exact keepsPlay_of_reset {}

/-- REINIT makes lines, lanes and slots as after a reset, and what it keeps is beside them (R165). -/
theorem keepsPlay_reinit (s : State) : KeepsPlay s (reinitEffect s).1 := keepsPlay_of_reset {}

/-! ### The rows of the opcode table -/

/-- The event of a command keeps what its effect keeps: the execution is beside the lanes. -/
theorem keepsPlayWith_command {c : Instr} {effect : State → State × Answer} (he : KeepsPlayWith s (effect s).1)
    (h : s.command c effect = .next t) : KeepsPlayWith s t := by
  unfold State.command at h
  split at h
  · split at h
    · cases h
      intro hp
      obtain ⟨hpu, hwu⟩ := he hp
      obtain ⟨hpt, hwt⟩ := SamePlay.keeps (s := (effect s).1) (t := { (effect s).1 with proc := _ }) {} hpu
      exact ⟨hpt, fun hc hw => hwt (hwu hc hw)⟩
    · cases h; exact (KeepsPlay.refl s).with
  · cases h; exact (KeepsPlay.refl s).with

/-- The rows of the timers of a lane. -/
theorem keepsPlay_timers (n : LaneNo) : (execStepEndTimer n s = .next t → KeepsPlay s t) ∧ (execBlankingEnd n s = .next t → KeepsPlay s t)
    ∧ (execStepTimeout n s = .next t → KeepsPlay s t) := by
  refine ⟨fun h => ?_, fun h => ?_, fun h => ?_⟩
  · unfold execStepEndTimer at h
    split at h
    · cases h; exact (playTurn_endByTimer s n _).keeps
    · cases h; exact KeepsPlay.refl s
  · unfold execBlankingEnd at h
    split at h
    · cases h; exact (playTurn_blankingEnd n s).keeps
    · cases h; exact KeepsPlay.refl s
  · unfold execStepTimeout at h
    split at h
    · cases h; exact (playTurn_endByTimer s n _).keeps
    · cases h; exact KeepsPlay.refl s

theorem keepsPlayWith_exec {i : Instr} (h : exec i s = .next t) : KeepsPlayWith s t := by
  obtain ⟨hCharacter, hStartBit, hGap, hFrame⟩ := samePlay_receiver (s := s) (t := t)
  obtain ⟨hTake, hCompletion, hTransmission, hRelease, hStartUp⟩ := samePlay_processor (s := s) (t := t)
  obtain ⟨hTrigger, hSync, hSyncHigh, hPulse, hFilter, hKill, hKillRelease, hKeepalive⟩ := samePlay_inputs (s := s) (t := t)
  cases i with
  | identify => exact keepsPlayWith_command (effect := identifyEffect) (KeepsPlay.refl s).with h
  | ping => exact keepsPlayWith_command (effect := pingEffect) (KeepsPlay.refl s).with h
  | getStatus scope arg => exact keepsPlayWith_command (samePlay_getStatus scope arg s).keeps.with h
  | setLink rate parity window => exact keepsPlayWith_command (samePlay_setLink rate parity window s).keeps.with h
  | reinit => exact keepsPlayWith_command (keepsPlay_reinit s).with h
  | configLine line polarity safeLevel => exact keepsPlayWith_command (samePlay_configLine line polarity safeLevel s).keeps.with h
  | setPair a b => exact keepsPlayWith_command (keepsPlayWith_setPair a b s) h
  | clearPair a => exact keepsPlayWith_command (keepsPlayWith_clearPair a s) h
  | configLane n raw => exact keepsPlayWith_command (keepsPlay_configLane n raw s).with h
  | enqueue n entries => exact keepsPlayWith_command (keepsPlay_enqueue n entries s).with h
  | start lanes mode => exact keepsPlayWith_command (keepsPlay_start lanes mode s).with h
  | openSeq id length => exact keepsPlayWith_command (keepsPlay_openSeq id length s).with h
  | appendSeq id offset steps => exact keepsPlayWith_command (keepsPlay_appendSeq id offset steps s).with h
  | deleteSeq id => exact keepsPlayWith_command (keepsPlay_deleteSeq id s).with h
  | pulseSync => exact keepsPlayWith_command (samePlay_pulseSync s).keeps.with h
  | pause n => exact keepsPlayWith_command (playTurn_pause n s).keeps.with h
  | resume n => exact keepsPlayWith_command (playTurn_resume n s).keeps.with h
  | stop n mode => exact keepsPlayWith_command (playTurn_stop n mode s).keeps.with h
  | breakPass n => exact keepsPlayWith_command (playTurn_break n s).keeps.with h
  | amend n serial d => exact keepsPlayWith_command (playTurn_amend n serial d s).keeps.with h
  | flush n => exact keepsPlayWith_command (playTurn_flush n s).keeps.with h
  | abort lanes => exact keepsPlayWith_command (keepsPlay_abort lanes s).with h
  | clearFault n => exact keepsPlayWith_command (keepsPlay_clearFault n s).with h
  | pinReset => exact (keepsPlay_pinReset h).with
  | resetRelease straps => exact (hRelease straps h).keeps.with
  | startUpEvent => exact (hStartUp h).keeps.with
  | characterReceived c => exact (hCharacter c h).keeps.with
  | gapExpiry => exact (hGap h).keeps.with
  | validFrame f => exact (hFrame f h).keeps.with
  | frameTake => exact (hTake h).keeps.with
  | commandCompletion => exact (hCompletion h).keeps.with
  | transmissionEnd => exact (hTransmission h).keeps.with
  | keepaliveExpiry => exact (hKeepalive h).keeps.with
  | killAssertion => exact (hKill h).keeps.with
  | killRelease => exact (hKillRelease h).keeps.with
  | triggerEdge i e => exact (hTrigger i e h).keeps.with
  | syncEdge => exact (hSync h).keeps.with
  | syncPulseExpiry => exact (hPulse h).keeps.with
  | stepEndTimer n => exact ((keepsPlay_timers n).1 h).with
  | blankingEnd n => exact ((keepsPlay_timers n).2.1 h).with
  | stepTimeout n => exact ((keepsPlay_timers n).2.2 h).with
  | guardExpiry l => exact (samePlay_guardExpiry h).keeps.with
  | startBitRecognized => exact (hStartBit h).keeps.with
  | syncLowToHigh => exact (hSyncHigh h).keeps.with
  | filterLevelAdopted input level => exact (hFilter input level h).keeps.with

/-! ### The step -/

/-- Before it acts, a step changes at most what lies beside the lanes, the library and the records. -/
theorem KeepsPlayWith.afterAside (b : KeepsPlayWith u t) (a : SamePlay s u) (hc : Aside s u) : KeepsPlayWith s t := by
  intro hp
  obtain ⟨hpu, hwu⟩ := a.keeps hp
  obtain ⟨hpt, hwt⟩ := b hpu
  exact ⟨hpt, fun hconfig hw => hwt (configSound_kept.aside hc hconfig) (hwu hw)⟩

theorem keepsPlayWith_step (h : step s = .next t) : KeepsPlayWith s t := by
  unfold step at h
  split at h
  · exact (keepsPlayWith_exec h).afterAside {} (aside_pending s _)
  · split at h
    · next hn =>
      rcases (nextHappening_some hn).2 with rfl | rfl
      · exact keepsPlayWith_exec h
      · exact (keepsPlayWith_exec h).afterAside (samePlay_draw s) (aside_draw s)
    · next e standing w hn =>
      cases h
      rcases (nextHappening_some hn).2 with rfl | rfl
      · exact (keepsPlay_take _ standing e).with
      · exact (keepsPlay_take _ standing e).with.afterAside (samePlay_draw s) (aside_draw s)
    · cases h
      exact (SamePlay.keeps {}).with

end Sys2Proof.Machine

namespace Sys2Proof.Proofs

open Sys2Proof.Machine

/-- Settles O58: each event is a turn of one lane that keeps its queue, cursor and counts right, a write of a slot that no entry names, or
beside both. -/
theorem stepKeepsPlaySound : Obligations.StepKeepsPlaySound := fun _ _ hp hs => keepsPlayWith_step hs hp

end Sys2Proof.Proofs

/-! PROOFS. The checks of steps and entries in their order (chapter 3). -/

namespace Sys2Proof.Machine

open Sys2Proof.Safety Sys2Proof.Spec

variable {n : LaneNo} {s : State}

/-! ### The bytes of a step -/

/-- A reading of three codes, 0, 1 and 2, reads no other. -/
theorem advance_ofCode_none_iff {b : Byte} : Advance.ofCode b = none ↔ 2 < b.toNat := by
  unfold Advance.ofCode
  split
  · next h => simp [h]
  · next h0 =>
    split
    · next h => simp [h]
    · next h1 =>
      split
      · next h => simp [h]
      · next h2 => exact ⟨fun _ => by bv_omega, fun _ => rfl⟩

theorem stepOfRaw_none_iff {raw : RawStep} : stepOfRaw raw = none ↔ raw.duration = 0 ∨ 2 < raw.advance.toNat := by
  unfold stepOfRaw
  split
  · next h => simp [h]
  · next h => rw [Option.map_eq_none_iff, advance_ofCode_none_iff, or_iff_right h]

theorem stepOfRaw_of_gives {raw : RawStep} {st : Step} (h : Gives raw st) : stepOfRaw raw = some st := by
  obtain ⟨hd, hadv, hact, hdur⟩ := h
  have hcode : Advance.ofCode raw.advance = some st.advance := by
    rw [hadv]
    cases st.advance <;> rfl
  rw [stepOfRaw, if_neg hd, hcode, ← hact, ← hdur]
  rfl

/-! ### What one entry answers, by its kind -/

theorem checkEntry_step_none {raw : RawStep} (h : stepOfRaw raw = none) : s.checkEntry n (.step raw) = .error .badValue := by
  simp only [State.checkEntry, h]

theorem checkEntry_step_refused {raw : RawStep} {st : Step} {code : ResultCode} (h : stepOfRaw raw = some st)
    (hc : stepCheck (s.lane n).config s.partner st = some code) : s.checkEntry n (.step raw) = .error code := by
  simp only [State.checkEntry, h, hc]

theorem checkEntry_step_passes {raw : RawStep} {st : Step} (h : stepOfRaw raw = some st)
    (hc : stepCheck (s.lane n).config s.partner st = none) : s.checkEntry n (.step raw) = .ok (.step st) := by
  simp only [State.checkEntry, h, hc]

theorem checkEntry_play_noSlot {id : Byte} {repeats : Half} (h : slotOfCode id = none) : s.checkEntry n (.play id repeats) = .error .noSequence := by
  simp only [State.checkEntry, h]

theorem checkEntry_play_free {id : Byte} {repeats : Half} {i : SlotNo} (hi : slotOfCode id = some i) (hs : (s.slot i).state = .free) :
    s.checkEntry n (.play id repeats) = .error .noSequence := by
  simp only [State.checkEntry, hi, hs]

theorem checkEntry_play_opened {id : Byte} {repeats : Half} {i : SlotNo} (hi : slotOfCode id = some i) (hs : (s.slot i).state = .opened) :
    s.checkEntry n (.play id repeats) = .error .seqOpen := by
  simp only [State.checkEntry, hi, hs]

/-! ### The checks before those of the entries -/

theorem takesEntries_false_iff (st : LaneState) : st.takesEntries = false ↔ st = .off ∨ st = .stopping ∨ st = .safe := by
  cases st <;> simp [LaneState.takesEntries]

/-- A queue holds 16 entries (R41). -/
theorem freeRoom_eq (r : LaneRec) : r.freeRoom = 16 - r.queue.length := rfl

/-- A refused ENQUEUE answers the code and the detail, and changes nothing (R48, R51). -/
theorem enqueueEffect_refused {entries : List RawEntry} {code : ResultCode} {detail : Nat} (h : enqueueCheck n entries s = .error (code, detail)) :
    enqueueEffect n entries s = (s, answer code (.enqueued (s.lane n).nextSerial 0 (s.lane n).state detail)) := by
  rw [enqueueEffect, h]

theorem enqueueCheck_wrongState {entries : List RawEntry} (h : (s.lane n).state.takesEntries = false) :
    enqueueCheck n entries s = .error (.wrongState, 0) := if_pos h

theorem enqueueCheck_full {entries : List RawEntry} (h : (s.lane n).state.takesEntries = true)
    (hroom : 16 - (s.lane n).queue.length < entries.length) : enqueueCheck n entries s = .error (.queueFull, 16 - (s.lane n).queue.length) := by
  rw [enqueueCheck, if_neg (by simp [h]), freeRoom_eq, if_pos hroom]

/-- Past the state and the room, the entries are left to check (R47, R48). -/
theorem enqueueCheck_entries {entries : List RawEntry} (h : (s.lane n).state.takesEntries = true)
    (hroom : entries.length ≤ 16 - (s.lane n).queue.length) : enqueueCheck n entries s = s.checkEntries n 0 entries := by
  rw [enqueueCheck, if_neg (by simp [h]), freeRoom_eq, if_neg (Nat.not_lt.2 hroom)]

end Sys2Proof.Machine

namespace Sys2Proof.Proofs

open Sys2Proof.Machine Sys2Proof.Spec

/-- Settles O18, check by check. -/
theorem stepChecksInOrder : Obligations.StepChecksInOrder := by
  intro c partner st notOwned paired withinGuard withinBlanking
  have hsub : ¬ notOwned → lineSubset st.active c.lines = true := fun h =>
    (lineSubset_iff _ _).2 fun l hl => by simpa using fun hc => h ⟨l, hl, hc⟩
  have hpair : ¬ paired → holdsPair partner st.active = false := fun h => by
    simpa using mt (holdsPair_iff partner st.active).1 h
  have hguard : c.ticks st.duration ≤ c.guard ↔ withinGuard := Iff.rfl
  refine ⟨fun ⟨l, hl, hc⟩ => stepCheck_notOwned ?_, fun ho hp => stepCheck_interlock (hsub ho) ((holdsPair_iff _ _).2 hp), fun ho hp hg => ?_,
    fun ho hp hg hb => ?_, fun ho hp hg hb => ?_⟩
  · rw [← Bool.not_eq_true, lineSubset_iff]
    intro h
    simp [h l hl] at hc
  · rw [stepCheck_lawful (hsub ho) (hpair hp), if_pos (hguard.2 hg)]
  · rw [stepCheck_lawful (hsub ho) (hpair hp), if_neg (mt hguard.1 hg), if_pos hb]
  · rw [stepCheck_lawful (hsub ho) (hpair hp), if_neg (mt hguard.1 hg), if_neg hb]
    refine ⟨fun he ht => if_pos ⟨he, ht⟩, fun hf hl => ?_, ?_⟩
    · rw [if_neg (by simp [hf]), if_pos ⟨hf, hl⟩]
    · rintro (ha | ⟨ha, hsource⟩ | ⟨ha, hsource⟩)
      · simp [ha]
      · simp [ha, hsource]
      · simp [ha, hsource]

/-- Settles O19: the refusals of ENQUEUE in their order, then the answers for one entry by its kind. -/
theorem enqueueChecksInOrder : Obligations.EnqueueChecksInOrder := by
  intro s n
  refine ⟨fun x entries hx => ?_, fun kind => rfl, fun raw => ⟨fun h => checkEntry_step_none (stepOfRaw_none_iff.2 h), fun st hst => ?_⟩,
    fun id repeats h => checkEntry_play_noSlot (slotOfCode_none h), fun id repeats i hid => ?_⟩
  · intro refuse
    have hrefuse : ∀ {code : ResultCode} {detail : Nat}, enqueueCheck n entries s = .error (code, detail) → refuse code detail :=
      fun h => command_answers hx (enqueueEffect_refused h)
    refine ⟨fun hst => hrefuse (enqueueCheck_wrongState ((takesEntries_false_iff _).2 hst)), fun hoff hstopping hsafe => ?_⟩
    have htakes : (s.lane n).state.takesEntries = true := by
      rw [← Bool.not_eq_false, takesEntries_false_iff]
      tauto
    refine ⟨fun hfull => hrefuse (enqueueCheck_full htakes hfull), fun hroom before after e code he hbefore hcode => hrefuse ?_⟩
    rw [enqueueCheck_entries htakes hroom, he, checkEntries_first hbefore hcode, Nat.zero_add]
  · have hraw := stepOfRaw_of_gives hst
    cases hc : stepCheck (s.lane n).config s.partner st with
    | some code => exact checkEntry_step_refused hraw hc
    | none => exact checkEntry_step_passes hraw hc
  · have hi := slotOfCode_val hid
    refine ⟨checkEntry_play_free hi, checkEntry_play_opened hi,
      fun hsealed => ⟨fun before after st code hsteps hbefore hcode => ?_, fun hall => ?_⟩⟩
    · exact checkEntry_play_refused hi hsealed (hsteps ▸ stepsCheck_first hbefore hcode)
    · rw [checkEntry_play_repeats hi hsealed (stepsCheck_none_iff.2 hall)]
      exact ⟨fun h => if_neg (Nat.not_le.2 h), fun h => if_pos h⟩

end Sys2Proof.Proofs

/-! PROOFS. An accepted ENQUEUE, and the first entry of a lane that was STARVED (R40, R49, R50). -/

namespace Sys2Proof.Machine

open Sys2Proof.Safety Sys2Proof.Spec

variable {n : LaneNo} {s t u : State}

/-! ### Serials by place -/

theorem numberEntries_eq_mapIdx (serial : Half) (bodies : List EntryBody) :
    numberEntries serial bodies = bodies.mapIdx fun i b => ⟨serial + BitVec.ofNat 16 i, b⟩ := by
  induction bodies generalizing serial with
  | nil => rfl
  | cons b bs ih =>
    have hserial : ∀ i, serial + BitVec.ofNat 16 (i + 1) = serial + 1 + BitVec.ofNat 16 i := fun i => by
      rw [ofNat_succ, add_assoc, add_comm 1]
    rw [numberEntries, ih, List.mapIdx_cons]
    simp only [hserial, BitVec.add_zero]

/-- The entries behind the first have the serials behind its own. -/
theorem numberEntries_cons (serial : Half) (first : EntryBody) (rest : List EntryBody) : numberEntries serial (first :: rest) =
    ⟨serial, first⟩ :: rest.mapIdx fun i b => ⟨serial + BitVec.ofNat 16 (i + 1), b⟩ := by
  rw [numberEntries_eq_mapIdx, List.mapIdx_cons]
  simp only [BitVec.add_zero]

/-! ### One lane alone, over two acts -/

theorem onlyLane_trans (a : OnlyLane n s u) (b : OnlyLane n u t) : OnlyLane n s t := by
  obtain ⟨haeq, halane, haline, haslot⟩ := a
  obtain ⟨hbeq, hblane, hbline, hbslot⟩ := b
  have hshape := congrArg (fun v : State =>
    { v with lanes := t.lanes, lines := t.lines, slots := t.slots, faultN := t.faultN, setOff := t.setOff }) haeq
  refine ⟨hbeq.trans hshape, fun m hm => (hblane m hm).trans (halane m hm), fun l hl => ?_, fun i => ?_⟩
  · have hline := haline l hl
    exact (hbline l (by rw [hline]; exact hl)).trans hline
  · rw [hbslot i, haslot i]

theorem toFollowers_congr (h : ∀ m, (t.lane m).config = (s.lane m).config) (n : LaneNo) : toFollowers t n = toFollowers s n := by
  simp only [toFollowers, h]

/-! ### What an acceptance leaves of the part -/

@[simp] theorem line_acceptEntries (s : State) (n : LaneNo) (bodies : List EntryBody) (l : LineNo) :
    (s.acceptEntries n bodies).line l = s.line l := by
  rw [acceptEntries_eq]; rfl

@[simp] theorem now_acceptEntries (s : State) (n : LaneNo) (bodies : List EntryBody) : (s.acceptEntries n bodies).now = s.now := by
  rw [acceptEntries_eq]

@[simp] theorem faultN_acceptEntries (s : State) (n : LaneNo) (bodies : List EntryBody) : (s.acceptEntries n bodies).faultN = s.faultN := by
  rw [acceptEntries_eq]

@[simp] theorem setOff_acceptEntries (s : State) (n : LaneNo) (bodies : List EntryBody) : (s.acceptEntries n bodies).setOff = s.setOff := by
  rw [acceptEntries_eq]

theorem config_acceptEntries (s : State) (n : LaneNo) (bodies : List EntryBody) (m : LaneNo) :
    ((s.acceptEntries n bodies).lane m).config = (s.lane m).config := by
  by_cases h : m = n
  · rw [h, lane_acceptEntries_self]
  · rw [lane_acceptEntries_ne s bodies h]

theorem stepAt_acceptEntries (s : State) (n : LaneNo) (bodies : List EntryBody) (c : Current) :
    (s.acceptEntries n bodies).stepAt c = s.stepAt c :=
  stepAt_congr (fun i => by rw [slot_acceptEntries]) c

theorem onlyLane_acceptEntries (s : State) (n : LaneNo) (bodies : List EntryBody) : OnlyLane n s (s.acceptEntries n bodies) := by
  refine ⟨?_, fun m hm => lane_acceptEntries_ne s bodies hm, fun l _ => line_acceptEntries s n bodies l, fun i => ?_⟩
  · have h := acceptEntries_eq s n bodies
    generalize s.acceptEntries n bodies = u at h
    rw [h]
  · rw [slot_acceptEntries]

/-! ### The effect -/

/-- An accepted ENQUEUE: the acceptance, and in STARVED the first entry (R49, R50). -/
theorem enqueueEffect_accepted {entries : List RawEntry} {bodies : List EntryBody} (hst : (s.lane n).state.takesEntries = true)
    (hroom : entries.length ≤ 16 - (s.lane n).queue.length) (hb : entries.map (s.checkEntry n) = bodies.map .ok) :
    enqueueEffect n entries s = ((s.acceptEntries n bodies).beginIfStarved n,
      answer .ok (.enqueued (s.lane n).nextSerial entries.length (((s.acceptEntries n bodies).beginIfStarved n).lane n).state 0)) := by
  rw [enqueueEffect, enqueueCheck_entries hst hroom, (checkEntries_ok_iff 0).2 hb]

theorem beginIfStarved_of_ne (h : (s.lane n).state ≠ .starved) : s.beginIfStarved n = s := if_neg h

theorem beginIfStarved_of_starved (h : (s.lane n).state = .starved) : s.beginIfStarved n = s.nextStep n true := if_pos h

/-- The first entry that a lane without a queue accepts begins when the lane goes on (R50, R88, R89). -/
theorem begins_acceptEntries {first : EntryBody} {rest : List EntryBody} {st : Step} (hc : (s.lane n).current = none)
    (hq : (s.lane n).queue = []) (hst : s.stepAt ⟨⟨(s.lane n).nextSerial, first⟩, 0, 1, false⟩ = some st) :
    Begins n { s.lane n with
        queue := rest.mapIdx fun i b => ⟨(s.lane n).nextSerial + BitVec.ofNat 16 (i + 1), b⟩
        nextSerial := (s.lane n).nextSerial + BitVec.ofNat 16 (first :: rest).length }
      ⟨⟨(s.lane n).nextSerial, first⟩, 0, 1, false⟩ st [] (s.acceptEntries n (first :: rest))
      ((s.acceptEntries n (first :: rest)).nextStep n true) := by
  have hlane := lane_acceptEntries_self s n (first :: rest)
  rw [hq, List.nil_append, numberEntries_cons] at hlane
  have hgoes := (Stands.start n (s.acceptEntries n (first :: rest))).goes (by rw [hlane]; exact hc) true
  rw [hlane] at hgoes
  exact hgoes.1 _ _ st rfl ((stepAt_acceptEntries s n _ _).trans hst)

end Sys2Proof.Machine

namespace Sys2Proof.Proofs

open Sys2Proof.Machine Sys2Proof.Spec

/-- Settles O20: the acceptance, and in STARVED stage 7 out of it. -/
theorem enqueueJoinsTheTail : Obligations.EnqueueJoinsTheTail := by
  intro s x n entries bodies hx hroom hb counted
  have hlen : entries.length = bodies.length := by simpa using congrArg List.length hb
  refine ⟨fun hst => ?_, fun hst hc hq first rest st hbodies hstep => ?_⟩
  · have htakes : (s.lane n).state.takesEntries = true := by
      simp only [List.mem_cons, List.not_mem_nil, or_false] at hst
      rcases hst with h | h | h | h | h <;> rw [h] <;> rfl
    have hstate : ((s.acceptEntries n bodies).lane n).state = (s.lane n).state := by rw [lane_acceptEntries_self]
    have hne : ((s.acceptEntries n bodies).lane n).state ≠ .starved := by
      intro h
      simp [hstate.symm.trans h] at hst
    have heffect := enqueueEffect_accepted htakes hroom hb
    rw [beginIfStarved_of_ne hne, hstate] at heffect
    refine ⟨_, command_answers hx heffect, acceptEntries_eq s n bodies, ?_, fun m hm => lane_acceptEntries_ne s bodies hm,
      fun i => slot_acceptEntries s n bodies i⟩
    rw [lane_acceptEntries_self, numberEntries_eq_mapIdx]
  · subst hbodies
    have hstate : ((s.acceptEntries n (first :: rest)).lane n).state = .starved := by rw [lane_acceptEntries_self]; exact hst
    have heffect := enqueueEffect_accepted (by rw [hst]; rfl) hroom hb
    obtain ⟨hlane, happlied, honly, hfault, hset⟩ := begins_acceptEntries (rest := rest) hc hq hstep
    rw [beginIfStarved_of_starved hstate, hlane] at heffect
    refine ⟨_, command_answers hx heffect, ?_, fun l hl => ?_, onlyLane_trans (onlyLane_acceptEntries s n _) honly,
      hfault.trans (faultN_acceptEntries s n _), ?_, fun i => ?_⟩
    · rw [hlane, now_acceptEntries, hlen]
      rfl
    · have hline := happlied l (by rw [line_acceptEntries]; exact hl)
      rwa [line_acceptEntries, now_acceptEntries] at hline
    · rw [hset, setOff_acceptEntries, toFollowers_congr (config_acceptEntries s n _)]
      simp [sent]
    · rw [slot_nextStep, slot_acceptEntries]

end Sys2Proof.Proofs

/-! PROOFS. STOP and FLUSH, out of the discard of the queue (R114 to R116, R122). -/

namespace Sys2Proof.Machine

open Sys2Proof.Safety Sys2Proof.Spec

variable {n : LaneNo} {r : LaneRec} {rs : List Report} {gone : SlotNo → Nat} {s u : State}

/-! ### The discard -/

/-- The queue alone is discarded, with the references of its entries (R43). -/
theorem stands_discardQueue (s : State) (n : LaneNo) : Stands n { s.lane n with queue := [] } [] (queuedUses (s.lane n)) s (s.discardQueue n) :=
  (Stands.start n s).discardQueue.fromNone

/-- The references of the queue and of the current entry are all that a record holds. -/
theorem released_uses (h : Released (fun i => queuedUses r i + currentUses r i) s u) : Released (fun i => uses i r) s u := by
  simpa only [uses_eq, Nat.add_comm] using h

theorem Stands.elapsed (h : Stands n r rs gone s u) (hr : r.run = (s.lane n).run) : u.elapsed n = s.elapsed n := by
  simp only [State.elapsed, h.act.untouched.now, h.lane, h.config, hr]

/-- A lane whose state is written as it is stands as before. -/
theorem Stands.sameState (h : Stands n r rs gone s u) {st : LaneState} (hs : r.state = st) : Stands n { r with state := st } rs gone s u := by
  subst hs; exact h

/-- As the direct result of a command a lane goes to IDLE without a report (R92). -/
theorem Stands.goesIdle (h : Stands n r rs gone s u) :
    Rests n { r with state := .idle } rs s (u.goIdle n) ∧ Released gone s (u.goIdle n) := by
  refine ⟨?_, fun i => ?_⟩
  · have := h.rests true .stopped
    rwa [if_pos rfl, List.append_nil] at this
  · rw [slot_goIdle, h.slots i]

/-! ### STOP with mode BOUNDARY -/

/-- A step in progress goes on to its end (R115). -/
theorem Stands.stopInStep (h : Stands n r rs gone s u) (hs : r.state ∈ [LaneState.running, .pausing, .stopping]) :
    Stands n { r with state := .stopping } rs gone s (u.stopBoundary n) := by
  simp only [List.mem_cons, List.not_mem_nil, or_false] at hs
  rcases hs with hs | hs | hs
  · have heq : u.stopBoundary n = u.setLaneState n .stopping := by simp only [State.stopBoundary, h.lane, hs]
    exact heq ▸ h.setLaneState .stopping
  · have heq : u.stopBoundary n = u.setLaneState n .stopping := by simp only [State.stopBoundary, h.lane, hs]
    exact heq ▸ h.setLaneState .stopping
  · have heq : u.stopBoundary n = u := by simp only [State.stopBoundary, h.lane, hs]
    rw [heq]
    exact h.sameState hs

theorem Stands.stopBoundaryArmed (h : Stands n r rs gone s u) (hs : r.state = .armed) :
    Stands n { r with state := .idle } rs gone s (u.stopBoundary n) := by
  have heq : u.stopBoundary n = u.setLaneState n .idle := by simp only [State.stopBoundary, h.lane, hs]
  exact heq ▸ h.setLaneState .idle

theorem Stands.stopStarved (h : Stands n r rs gone s u) (hs : r.state = .starved) :
    Rests n { r with state := .idle } rs s (u.stopBoundary n) ∧ Released gone s (u.stopBoundary n) := by
  have heq : u.stopBoundary n = u.goIdle n := by simp only [State.stopBoundary, h.lane, hs]
  exact heq ▸ h.goesIdle

/-- The entry of a PAUSED lane ends STOPPED (R115). -/
theorem Stands.stopPaused (h : Stands n r rs gone s u) (hs : r.state = .paused) :
    Rests n { r with state := .idle, current := none } (rs ++ entryCut n r .stopped) s (u.stopBoundary n)
      ∧ Released (fun i => gone i + currentUses r i) s (u.stopBoundary n) := by
  have heq : u.stopBoundary n = (u.cutEntry n .stopped).goIdle n := by simp only [State.stopBoundary, h.lane, hs]
  exact heq ▸ (h.cutEntry .stopped).goesIdle

/-! ### STOP with mode NOW -/

theorem Stands.stopNowArmed (h : Stands n r rs gone s u) (hs : r.state = .armed) :
    Stands n { r with state := .idle } rs gone s (u.stopNow n) := by
  have heq : u.stopNow n = u.setLaneState n .idle := if_pos (by rw [h.lane, hs])
  exact heq ▸ h.setLaneState .idle

/-- The step and the entry are cut (R116). -/
theorem Stands.stopNowCuts (h : Stands n r rs gone s u) (hs : r.state ≠ .armed) :
    Rests n { r with state := .idle, current := none, run := none } (rs ++ stepCut n r (u.elapsed n) ++ entryCut n r .cut) s (u.stopNow n)
      ∧ Released (fun i => gone i + currentUses r i) s (u.stopNow n) := by
  have heq : u.stopNow n = ((u.cutStep n).cutEntry n .cut).goIdle n := if_neg (by rw [h.lane]; exact hs)
  exact heq ▸ (h.cutStep.cutEntry .cut).goesIdle

/-! ### The effects -/

theorem stopMode_none_iff {b : Byte} : StopMode.ofCode b = none ↔ 1 < b.toNat := two_codes_none

theorem stopEffect_badMode {mode : Byte} (h : StopMode.ofCode mode = none) :
    stopEffect n mode s = (s, answer .badValue (.discarded 0 (s.lane n).state)) := by
  rw [stopEffect, h]

theorem stopEffect_wrongState {mode : Byte} {m : StopMode} (h : StopMode.ofCode mode = some m)
    (hs : (s.lane n).state = .off ∨ (s.lane n).state = .idle ∨ (s.lane n).state = .safe) :
    stopEffect n mode s = (s, answer .wrongState (.discarded 0 (s.lane n).state)) := by
  simp only [stopEffect, h, if_pos hs]

theorem stopEffect_boundary {st : LaneState} (hs : ¬ ((s.lane n).state = .off ∨ (s.lane n).state = .idle ∨ (s.lane n).state = .safe))
    (hst : (((s.discardQueue n).stopBoundary n).lane n).state = st) :
    stopEffect n 0 s = ((s.discardQueue n).stopBoundary n, answer .ok (.discarded (s.lane n).queue.length st)) := by
  subst hst
  exact if_neg hs

theorem stopEffect_now {st : LaneState} (hs : ¬ ((s.lane n).state = .off ∨ (s.lane n).state = .idle ∨ (s.lane n).state = .safe))
    (hst : (((s.discardQueue n).stopNow n).lane n).state = st) :
    stopEffect n 1 s = ((s.discardQueue n).stopNow n, answer .ok (.discarded (s.lane n).queue.length st)) := by
  subst hst
  exact if_neg hs

/-- FLUSH discards the queue, and a lane that was ARMED becomes IDLE (R122). -/
def State.flushed (s : State) (n : LaneNo) : State :=
  if (s.lane n).state = .armed then (s.discardQueue n).setLaneState n .idle else s.discardQueue n

theorem flushEffect_accepted (h : ¬ ((s.lane n).state = .off ∨ (s.lane n).state = .safe)) :
    flushEffect n s = (s.flushed n, answer .ok (.discarded (s.lane n).queue.length ((s.flushed n).lane n).state)) := if_neg h

theorem stands_flushed (s : State) (n : LaneNo) :
    Stands n { s.lane n with queue := [], state := if (s.lane n).state = .armed then .idle else (s.lane n).state } []
      (queuedUses (s.lane n)) s (s.flushed n) := by
  unfold State.flushed
  split
  · exact (stands_discardQueue s n).setLaneState .idle
  · exact stands_discardQueue s n

end Sys2Proof.Machine

namespace Sys2Proof.Proofs

open Sys2Proof.Machine Sys2Proof.Spec

/-- Settles O31: the discard, then the lane by its mode and state. -/
theorem stopByModeAndLaneState : Obligations.StopByModeAndLaneState := by
  intro s x n mode hx r accepted
  have hd : Stands n r [] (queuedUses (s.lane n)) s (s.discardQueue n) := stands_discardQueue s n
  refine ⟨fun hmode => command_answers hx (stopEffect_badMode (stopMode_none_iff.2 hmode)), fun hmode hs => ?_, ?_, ?_⟩
  · obtain ⟨m, hm⟩ := Option.ne_none_iff_exists'.1 (mt stopMode_none_iff.1 (Nat.not_lt.2 hmode))
    exact command_answers hx (stopEffect_wrongState hm hs)
  · rintro rfl
    have haccepted : ∀ {st : LaneState}, (s.lane n).state ∉ [LaneState.off, .idle, .safe] →
        (((s.discardQueue n).stopBoundary n).lane n).state = st → accepted st ((s.discardQueue n).stopBoundary n) :=
      fun hs hst => command_answers hx (stopEffect_boundary (by simpa using hs) hst)
    refine ⟨fun hs => ?_, fun hs => ?_, fun hs => ?_, fun hs => ?_⟩
    · have h := hd.stopInStep hs
      refine ⟨_, haccepted (fun hno => ?_) (by rw [h.lane]), h.holds, h.slots⟩
      simp only [List.mem_cons, List.not_mem_nil, or_false] at hs hno
      rcases hs with hs | hs | hs <;> simp [hs] at hno
    · have h := hd.stopBoundaryArmed hs
      exact ⟨_, haccepted (by simp [hs]) (by rw [h.lane]), h.holds, h.slots⟩
    · obtain ⟨hrests, hreleased⟩ := hd.stopStarved hs
      exact ⟨_, haccepted (by simp [hs]) (by rw [hrests.1]), hrests, hreleased⟩
    · obtain ⟨hrests, hreleased⟩ := hd.stopPaused hs
      exact ⟨_, haccepted (by simp [hs]) (by rw [hrests.1]), hrests, released_uses (r := s.lane n) hreleased⟩
  · rintro rfl
    have haccepted : ∀ {st : LaneState}, (s.lane n).state ∉ [LaneState.off, .idle, .safe] →
        (((s.discardQueue n).stopNow n).lane n).state = st → accepted st ((s.discardQueue n).stopNow n) :=
      fun hs hst => command_answers hx (stopEffect_now (by simpa using hs) hst)
    refine ⟨fun hs => ?_, fun hs => ?_⟩
    · have h := hd.stopNowArmed hs
      exact ⟨_, haccepted (by simp [hs]) (by rw [h.lane]), h.holds, h.slots⟩
    · have hlive : (s.lane n).state ≠ .armed ∧ (s.lane n).state ∉ [LaneState.off, .idle, .safe] := by
        simp only [List.mem_cons, List.not_mem_nil, or_false] at hs
        rcases hs with hs | hs | hs | hs | hs <;> simp [hs]
      obtain ⟨hrests, hreleased⟩ := hd.stopNowCuts hlive.1
      rw [hd.elapsed rfl] at hrests
      exact ⟨_, haccepted hlive.2 (by rw [hrests.1]), hrests, released_uses (r := s.lane n) hreleased⟩

/-- Settles O34: the discard, and the state of an ARMED lane. -/
theorem flushByLaneState : Obligations.FlushByLaneState := by
  intro s x n hx
  refine ⟨fun hs => command_answers hx (if_pos hs), fun hoff hsafe => ?_⟩
  have h := stands_flushed s n
  have heffect := flushEffect_accepted (not_or.2 ⟨hoff, hsafe⟩)
  rw [h.lane] at heffect
  exact ⟨_, command_answers hx heffect, h.holds, h.slots⟩

end Sys2Proof.Proofs

/-! PROOFS. The sequence library: its free space and free slots, and OPEN_SEQ, APPEND_SEQ and DELETE_SEQ (R55 to R62). -/

namespace Sys2Proof.Machine

open Sys2Proof.Safety Sys2Proof.Spec

variable {s : State} {i : SlotNo} {f g : Slot → Slot} {id length offset : Byte} {raw : List RawStep} {steps : List Step}

/-! ### What the change of one slot makes of the library's counts (R55) -/

theorem updSlot_congr (h : f (s.slot i) = g (s.slot i)) : s.updSlot i f = s.updSlot i g := by
  rw [State.updSlot, State.updSlot, h]

theorem reservedSteps_updSlot (s : State) (i : SlotNo) (f : Slot → Slot) :
    (s.updSlot i f).reservedSteps + (s.slot i).reserved = s.reservedSteps + (f (s.slot i)).reserved := by
  have hsum := sum_of_one_changed (f := fun j => (s.slot j).reserved) (g := fun j => ((s.updSlot i f).slot j).reserved) i fun j hj => by
    rw [slot_updSlot_ne _ _ _ _ hj]
  rwa [slot_updSlot_self] at hsum

/-- The library has 512 steps (R55). -/
theorem freeSpace_eq (s : State) : s.freeSpace = 512 - s.reservedSteps := rfl

theorem freeSpace_updSlot_of_unreserved (h : (s.slot i).reserved = 0) : (s.updSlot i f).freeSpace = s.freeSpace - (f (s.slot i)).reserved := by
  have hsum := reservedSteps_updSlot s i f
  rw [freeSpace_eq, freeSpace_eq]
  omega

theorem freeSpace_updSlot_of_released (h : (f (s.slot i)).reserved = 0) (hspace : s.reservedSteps ≤ 512) :
    (s.updSlot i f).freeSpace = s.freeSpace + (s.slot i).reserved := by
  have hsum := reservedSteps_updSlot s i f
  rw [freeSpace_eq, freeSpace_eq]
  omega

/-- A count as a sum, so that it changes as `sum_of_one_changed` says. -/
theorem length_filter_eq_sum {α : Type} (p : α → Bool) (l : List α) : (l.filter p).length = (l.map fun a => (p a).toNat).sum := by
  induction l with
  | nil => rfl
  | cons a l ih => cases h : p a <;> simp [h, ih, Nat.add_comm]

theorem freeSlots_updSlot (s : State) (i : SlotNo) (f : Slot → Slot) :
    (s.updSlot i f).freeSlots + ((s.slot i).state == .free).toNat = s.freeSlots + ((f (s.slot i)).state == .free).toNat := by
  have hsum := sum_of_one_changed (f := fun j => ((s.slot j).state == .free).toNat)
    (g := fun j => (((s.updSlot i f).slot j).state == .free).toNat) i fun j hj => by rw [slot_updSlot_ne _ _ _ _ hj]
  rw [slot_updSlot_self] at hsum
  rwa [State.freeSlots, State.freeSlots, length_filter_eq_sum, length_filter_eq_sum]

theorem freeSlots_updSlot_of_taken (h : (s.slot i).state = .free) (hf : (f (s.slot i)).state ≠ .free) :
    (s.updSlot i f).freeSlots + 1 = s.freeSlots := by
  simpa [h, beq_false_of_ne hf] using freeSlots_updSlot s i f

theorem freeSlots_updSlot_of_given (h : (s.slot i).state ≠ .free) (hf : (f (s.slot i)).state = .free) :
    (s.updSlot i f).freeSlots = s.freeSlots + 1 := by
  simpa [beq_false_of_ne h, hf] using freeSlots_updSlot s i f

/-! ### OPEN_SEQ -/

/-- A FREE slot has no declared length and no use (R56, R64). -/
theorem slotSound_free (hs : (s.slot i).state = .free) (h : SlotSound (s.slot i)) :
    (s.slot i).declared = none ∧ (s.slot i).useCount = 0 := by
  rw [SlotSound, hs] at h
  obtain ⟨hdeclared, -, huse⟩ := h
  exact ⟨hdeclared, huse⟩

theorem openSeqEffect_noSlot (h : 31 < id.toNat) : openSeqEffect id length s = (s, ⟨.badValue, .slotSpace .free s.freeSpace, none⟩) := by
  rw [openSeqEffect, slotOfCode_none h]
  rfl

theorem openSeqEffect_wrongState (hid : id.toNat = i.val) (hs : (s.slot i).state ≠ .free) :
    openSeqEffect id length s = (s, ⟨.wrongState, .slotSpace (s.slot i).state s.freeSpace, none⟩) := by
  rw [openSeqEffect, slotOfCode_val hid]
  exact if_pos hs

/-- OPEN_SEQ of a FREE slot: checks 3 and 4, and the effect (R57, R58). -/
theorem openSeqEffect_free (hid : id.toNat = i.val) (hs : (s.slot i).state = .free) :
    openSeqEffect id length s =
      if length.toNat = 0 ∨ 64 < length.toNat then (s, ⟨.badValue, .slotSpace .free s.freeSpace, none⟩)
      else if s.freeSpace < length.toNat then (s, ⟨.noSpace, .slotSpace .free s.freeSpace, none⟩)
      else (s.updSlot i fun y => { y with state := .opened, declared := some length.toNat, steps := [] }, ⟨.ok, .slotSpace .opened
        (s.updSlot i fun y => { y with state := .opened, declared := some length.toNat, steps := [] }).freeSpace, none⟩) := by
  have hzero : length.toNat = 0 ↔ length = 0 := by bv_omega
  simp only [openSeqEffect, slotOfCode_val hid, hs, hzero]
  rfl

theorem openSeqEffect_accepted (hid : id.toNat = i.val) (hs : (s.slot i).state = .free) (hpos : 1 ≤ length.toNat)
    (hle : length.toNat ≤ 64) (hroom : length.toNat ≤ s.freeSpace) (hsound : SlotSound (s.slot i)) :
    openSeqEffect id length s = (s.updSlot i fun _ => ⟨.opened, some length.toNat, [], 0⟩,
      ⟨.ok, .slotSpace .opened (s.updSlot i fun _ => ⟨.opened, some length.toNat, [], 0⟩).freeSpace, none⟩) := by
  obtain ⟨-, huse⟩ := slotSound_free hs hsound
  have hslot : (s.updSlot i fun y => { y with state := .opened, declared := some length.toNat, steps := [] })
      = s.updSlot i fun _ => ⟨.opened, some length.toNat, [], 0⟩ := updSlot_congr (by rw [huse])
  rw [openSeqEffect_free hid hs, if_neg (by omega), if_neg (Nat.not_lt.2 hroom), hslot]

/-! ### The steps of a frame -/

/-- One step that is not intrinsically valid spoils the list (R59). -/
theorem stepsOfRaw_none_of_mem {r : RawStep} (hr : r ∈ raw) (h : stepOfRaw r = none) : stepsOfRaw raw = none := by
  induction raw with
  | nil => cases hr
  | cons x xs ih =>
    rw [stepsOfRaw]
    rcases List.mem_cons.1 hr with rfl | hxs
    · rw [h]
    · rw [ih hxs]
      cases stepOfRaw x <;> rfl

theorem stepsOfRaw_of_gives (h : List.Forall₂ Gives raw steps) : stepsOfRaw raw = some steps := by
  induction h with
  | nil => rfl
  | cons hx _ ih => rw [stepsOfRaw, stepOfRaw_of_gives hx, ih]

/-! ### APPEND_SEQ -/

theorem appendSeqEffect_noSlot (h : 31 < id.toNat) : appendSeqEffect id offset raw s = (s, ⟨.noSequence, .slotFilled .free 0, none⟩) := by
  rw [appendSeqEffect, slotOfCode_none h]
  rfl

theorem appendSeqEffect_free (hid : id.toNat = i.val) (hs : (s.slot i).state = .free) :
    appendSeqEffect id offset raw s = (s, ⟨.noSequence, .slotFilled (s.slot i).state (s.slot i).steps.length, none⟩) := by
  simp only [appendSeqEffect, slotOfCode_val hid, hs]
  rfl

theorem appendSeqEffect_sealed (hid : id.toNat = i.val) (hs : (s.slot i).state = .sealed) :
    appendSeqEffect id offset raw s = (s, ⟨.wrongState, .slotFilled (s.slot i).state (s.slot i).steps.length, none⟩) := by
  simp only [appendSeqEffect, slotOfCode_val hid, hs]
  rfl

/-- APPEND_SEQ to an OPEN slot: checks 3 to 5, and the effect (R59, R60). -/
theorem appendSeqEffect_opened (hid : id.toNat = i.val) (hs : (s.slot i).state = .opened) :
    appendSeqEffect id offset raw s =
      if offset.toNat ≠ (s.slot i).steps.length then (s, ⟨.badOffset, .slotFilled (s.slot i).state (s.slot i).steps.length, none⟩)
      else if (s.slot i).reserved < (s.slot i).steps.length + raw.length then
        (s, ⟨.badValue, .slotFilled (s.slot i).state (s.slot i).steps.length, none⟩)
      else match stepsOfRaw raw with
        | none => (s, ⟨.badValue, .slotFilled (s.slot i).state (s.slot i).steps.length, none⟩)
        | some steps => (s.updSlot i fun y => y.append steps,
            ⟨.ok, .slotFilled ((s.slot i).append steps).state ((s.slot i).append steps).filled, none⟩) := by
  simp only [appendSeqEffect, slotOfCode_val hid, hs]
  rfl

/-- The steps stored behind those of a slot, with the lengths written out (R60). -/
theorem append_eq {y : Slot} {k : Nat} (h : steps.length = k) : y.append steps =
    { y with steps := y.steps ++ steps, state := if y.steps.length + k = y.reserved then .sealed else .opened } := by
  rw [Slot.append, List.length_append, h]

/-- The five checks passed: the slot holds the steps behind its own, and is SEALED when it is full (R60). -/
theorem appendSeqEffect_accepted (hid : id.toNat = i.val) (hs : (s.slot i).state = .opened)
    (hoffset : offset.toNat = (s.slot i).steps.length) (hroom : (s.slot i).steps.length + raw.length ≤ (s.slot i).reserved)
    (hsteps : stepsOfRaw raw = some steps) {now : SlotState}
    (hnow : now = if (s.slot i).steps.length + raw.length = (s.slot i).reserved then .sealed else .opened) :
    appendSeqEffect id offset raw s = (s.updSlot i fun y => { y with steps := y.steps ++ steps, state := now },
      ⟨.ok, .slotFilled now ((s.slot i).steps.length + raw.length), none⟩) := by
  have hlen := length_stepsOfRaw hsteps
  have happend : (s.slot i).append steps = { s.slot i with steps := (s.slot i).steps ++ steps, state := now } := by
    rw [append_eq hlen, ← hnow]
  rw [appendSeqEffect_opened hid hs, if_neg (not_not.2 hoffset), if_neg (Nat.not_lt.2 hroom), hsteps]
  have hslot : (s.updSlot i fun y => y.append steps) = s.updSlot i fun y => { y with steps := y.steps ++ steps, state := now } :=
    updSlot_congr happend
  simp only [hslot, happend, Slot.filled, List.length_append, hlen]

/-! ### DELETE_SEQ -/

theorem deleteSeqEffect_noSlot (h : 31 < id.toNat) : deleteSeqEffect id s = (s, ⟨.noSequence, .slotUse 0 s.freeSpace, none⟩) := by
  rw [deleteSeqEffect, slotOfCode_none h]
  rfl

/-- DELETE_SEQ of a slot: its two checks, and the effect (R62). -/
theorem deleteSeqEffect_eq (hid : id.toNat = i.val) :
    deleteSeqEffect id s =
      if (s.slot i).state = .free then (s, ⟨.noSequence, .slotUse 0 s.freeSpace, none⟩)
      else if (s.slot i).useCount ≠ 0 then (s, ⟨.inUse, .slotUse (s.slot i).useCount s.freeSpace, none⟩)
      else (s.updSlot i fun _ => ⟨.free, none, [], 0⟩,
        ⟨.ok, .slotUse 0 (s.updSlot i fun _ => ⟨.free, none, [], 0⟩).freeSpace, none⟩) := by
  rw [deleteSeqEffect, slotOfCode_val hid]
  rfl

end Sys2Proof.Machine

namespace Sys2Proof.Proofs

open Sys2Proof.Machine Sys2Proof.Safety Sys2Proof.Spec

/-- Settles O21, check by check; the free space and the free slots follow from the one slot that changes. -/
theorem openSeqChecksAndEffect : Obligations.OpenSeqChecksAndEffect := by
  intro s x id length hx
  refine ⟨fun h => command_answers hx (openSeqEffect_noSlot h), fun i hid =>
    ⟨fun hs => command_answers hx (openSeqEffect_wrongState hid hs), fun hs => ⟨fun hbad => command_answers hx ?_, fun hpos hle =>
      ⟨fun hfull => command_answers hx ?_, fun hroom hsound => ?_⟩⟩⟩⟩
  · rw [openSeqEffect_free hid hs, if_pos hbad]
  · rw [openSeqEffect_free hid hs, if_neg (by omega), if_pos hfull]
  · obtain ⟨hdeclared, -⟩ := slotSound_free hs hsound
    have hspace : (s.updSlot i fun _ => ⟨.opened, some length.toNat, [], 0⟩).freeSpace = s.freeSpace - length.toNat :=
      freeSpace_updSlot_of_unreserved (by rw [Slot.reserved, hdeclared]; rfl)
    have heffect := openSeqEffect_accepted hid hs hpos hle hroom hsound
    rw [hspace] at heffect
    exact ⟨command_answers hx heffect, hspace, freeSlots_updSlot_of_taken hs SlotState.noConfusion⟩

/-- Settles O22, check by check. -/
theorem appendSeqChecksAndEffect : Obligations.AppendSeqChecksAndEffect := by
  intro s x id offset raw hx
  refine ⟨fun h => command_answers hx (appendSeqEffect_noSlot h), fun i hid => ?_⟩
  intro refuse
  refine ⟨fun hs => command_answers hx (appendSeqEffect_free hid hs), fun hs => command_answers hx (appendSeqEffect_sealed hid hs), fun hs =>
    ⟨fun hoffset => command_answers hx ?_, fun hoffset => ⟨fun hfull => command_answers hx ?_, fun hroom =>
      ⟨fun hbad => command_answers hx ?_, fun steps hgives =>
        command_answers hx (appendSeqEffect_accepted hid hs hoffset hroom (stepsOfRaw_of_gives hgives) rfl)⟩⟩⟩⟩
  · rw [appendSeqEffect_opened hid hs, if_pos hoffset]
  · rw [appendSeqEffect_opened hid hs, if_neg (not_not.2 hoffset), if_pos hfull]
  · obtain ⟨r, hr, hinvalid⟩ := hbad
    rw [appendSeqEffect_opened hid hs, if_neg (not_not.2 hoffset), if_neg (Nat.not_lt.2 hroom),
      stepsOfRaw_none_of_mem hr (stepOfRaw_none_iff.2 hinvalid)]

/-- Settles O23, check by check; the free space and the free slots follow from the one slot that changes. -/
theorem deleteSeqChecksAndEffect : Obligations.DeleteSeqChecksAndEffect := by
  intro s x id hx
  refine ⟨fun h => command_answers hx (deleteSeqEffect_noSlot h), fun i hid =>
    ⟨fun hs => command_answers hx ?_, fun hs => ⟨fun huse => command_answers hx ?_, fun huse hle => ?_⟩⟩⟩
  · rw [deleteSeqEffect_eq hid, if_pos hs]
  · rw [deleteSeqEffect_eq hid, if_neg hs, if_pos (Nat.pos_iff_ne_zero.1 huse)]
  · have hspace : (s.updSlot i fun _ => ⟨.free, none, [], 0⟩).freeSpace = s.freeSpace + (s.slot i).reserved :=
      freeSpace_updSlot_of_released rfl hle
    have heffect := deleteSeqEffect_eq (s := s) hid
    rw [if_neg hs, if_neg (not_not.2 huse), hspace] at heffect
    exact ⟨command_answers hx heffect, hspace, freeSlots_updSlot_of_given hs rfl⟩

end Sys2Proof.Proofs

/-! PROOFS. The timers of a step in progress, and the boundary event that a step which begins sends to the lane's followers (R77, R82, R89, R96,
R99 to R102). -/

namespace Sys2Proof.Machine

open Sys2Proof.Safety Sys2Proof.Spec

variable {s t u : State} {n m : LaneNo} {r : StepRun} {c : Current} {rs : List Report}

/-! ### The rows of the three timers -/

/-- The end timer of a TIME step that has run out takes the boundary (R77, R80, R120). -/
theorem exec_stepEndTimer_of_due (hr : (s.lane n).run = some r) (ha : r.step.advance = .time)
    (ht : r.startedAt + r.step.duration * 2 ^ (s.lane n).config.tickExp ≤ s.now) :
    exec (.stepEndTimer n) s = .next (s.boundary n (if r.amended then .amended else .time) r.step.duration false) := by
  change execStepEndTimer n s = _
  rw [execStepEndTimer, if_pos ((endTimerDue_iff s n).2 ⟨r, hr, ha, ht⟩)]
  simp only [State.endByTimer, hr]

/-- The timeout of an EDGE or FOLLOW step that has run out takes the boundary (R80, R101). -/
theorem exec_stepTimeout_of_due (hr : (s.lane n).run = some r) (ha : r.step.advance ≠ .time)
    (ht : r.startedAt + r.step.duration * 2 ^ (s.lane n).config.tickExp ≤ s.now) :
    exec (.stepTimeout n) s = .next (s.boundary n .timeout r.step.duration false) := by
  change execStepTimeout n s = _
  rw [execStepTimeout, if_pos ((timeoutDue_iff s n).2 ⟨r, hr, ha, ht⟩)]
  simp only [State.endByTimer, hr]

/-- The end of the blanking marks the step (R96). -/
theorem exec_blankingEnd_of_due (hr : (s.lane n).run = some r) (ha : r.step.advance ≠ .time) (hb : r.pastBlanking = false)
    (ht : r.startedAt + (s.lane n).config.blanking * 2 ^ (s.lane n).config.tickExp ≤ s.now) :
    exec (.blankingEnd n) s = .next (s.updLane n fun y => { y with run := some { r with pastBlanking := true } }) := by
  change execBlankingEnd n s = _
  rw [execBlankingEnd, if_pos ((blankingDue_iff s n).2 ⟨r, hr, ha, hb, ht⟩)]
  simp only [State.updLane, hr, Option.map_some]

/-- A step that its end timer ends is no timeout, whatever the lane's timeout action. -/
theorem noFault_of_endTimer (x : LaneRec) (amended : Bool) : noFault x (if amended then .amended else .time) := by
  cases amended <;> exact fun h => nomatch h.1

/-! ### A timeout under FAULT -/

/-- Stage 2 of the boundary: after the step's report the lane enters SAFE with cause TIMEOUT (R82). -/
theorem boundary_of_timeoutFault {d : Nat} {quiet : Bool} (hc : (s.lane n).current = some c) (ha : (s.lane n).config.timeoutAction = .fault) :
    s.boundary n .timeout d quiet = ((s.reportStep n c .timeout d).dropStep n).enterSafe n (.timeout c.entry.serial c.index) := by
  have hlane := (((Stands.start n s).reportStep c .timeout d).dropStep).lane
  simp only [State.boundary, hc]
  rw [State.afterStep, if_pos ⟨rfl, by rw [hlane]; exact ha⟩]

/-- A lane whose step has ended enters SAFE: behind the reports so far go that of its entry, which is cut, and that of its state (R131). -/
theorem Stands.entersSafe (h : Stands n { s.lane n with run := none } rs (fun _ => 0) s u) (c : SafeCause)
    (ho : (s.lane n).state ≠ .off) (hs : (s.lane n).state ≠ .safe) :
    OnlyLane n s (u.enterSafe n c) ∧ InSafe [n] s (u.enterSafe n c)
      ∧ (u.enterSafe n c).setOff = s.setOff ++ sent (rs ++ entryCut n (s.lane n) .cut ++ safeReport n c) := by
  obtain ⟨honly, ⟨hlane, hsafe, hline, hslot, hfault⟩, hset⟩ :=
    enterSafe_entersSafe (s := u) (n := n) c (by rw [h.lane]; exact ho) (by rw [h.lane]; exact hs)
  refine ⟨onlyLane_trans h.act.onlyLane honly, ⟨fun m => ?_, fun m hm l hl => ?_, fun l hl => ?_, fun i => ?_, ?_⟩, ?_⟩
  · rw [hlane m]
    by_cases hm : m = n
    · subst hm
      rw [if_pos (List.mem_singleton.2 rfl), if_pos (List.mem_singleton.2 rfl), h.lane]
      rfl
    · rw [h.act.lane m hm]
  · have hkept := hsafe m hm l (by rw [h.lines l]; exact hl)
    rwa [h.lines l] at hkept
  · rw [hline l (by rw [h.lines l]; exact hl), h.lines l]
  · rw [hslot i, h.slots i, Nat.sub_zero]
    simp only [List.map_cons, List.map_nil, h.lane]
    rfl
  · rw [hfault, h.faultN]
  · rw [hset, h.setOff, safeReports_eq, h.lane]
    simp [sent, stepCut, entryCut]

/-! ### The boundary event at a follower -/

/-- A follower with a FOLLOW step past its blanking takes its own boundary (R99, Table 6-3). -/
theorem take_leaderBoundary_boundary (hr : (s.lane m).run = some r) (hc : (s.lane m).current = some c) (ha : r.step.advance = .follow)
    (hb : r.pastBlanking = true) :
    BoundaryTaken m c .follow ((s.now - r.startedAt) / 2 ^ (s.lane m).config.tickExp) false s (s.take (.leaderBoundary m)) := by
  rw [State.take, advanceBy_of .follow hr ha hb]
  exact boundary_taken hc (fun h => nomatch h.1)

/-- In any other condition it does nothing (R100, Table 6-3). -/
theorem take_leaderBoundary_of_not (h : ∀ r, (s.lane m).run = some r → r.step.advance ≠ .follow ∨ r.pastBlanking = false) :
    s.take (.leaderBoundary m) = s := by
  cases hr : (s.lane m).run with
  | none => exact advanceBy_of_none .follow .follow hr
  | some r => exact advanceBy_of_not .follow hr (h r hr)

theorem leaderBoundary_mem_toFollowers (h : (s.lane m).config.leader = some n) : SetOff.leaderBoundary m ∈ toFollowers s n := by
  simp [toFollowers, h]

/-- An event in flight that carries no report can be the next to be taken. -/
theorem exists_takeable_of_bare {e : SetOff} {es : List SetOff} (h : e ∈ es) (hb : e.carried = []) :
    ∃ standing, (e, standing) ∈ takeable [] es := by
  obtain ⟨before, after, rfl⟩ := List.append_of_mem h
  exact ⟨_, takeable_of_turn (before := []) (waitsFor_of_bare hb _)⟩

/-- At the boundary of a lane RUNNING within the pass of a PLAY entry, the next step of its slot begins (R84, R87, R88). -/
theorem boundary_begins_next {o : StepOutcome} {ticks repeats : Nat} {quiet : Bool} {i : SlotNo} {st : Step}
    (hc : (s.lane n).current = some c) (ho : noFault (s.lane n) o) (hs : (s.lane n).state = .running) (hbody : c.entry.body = .play i repeats)
    (hst : (s.slot i).steps[c.index + 1]? = some st) :
    Begins n { s.lane n with run := none } { c with index := c.index + 1 } st
      (stepReports (s.lane n).config.policy (.stepEnd n c.entry.serial c.index c.pass o ticks)) s (s.boundary n o ticks quiet) := by
  have htaken := boundary_taken (ticks := ticks) (quiet := quiet) hc ho
  simp only [BoundaryTaken, hbody] at htaken
  obtain ⟨hlt, -⟩ := List.getElem?_eq_some_iff.1 hst
  obtain ⟨hgoesOn, -⟩ := htaken
  obtain ⟨-, -, hruns⟩ := hgoesOn hlt
  have hstep : s.stepAt { c with index := c.index + 1 } = some st := by
    simp only [State.stepAt, hbody, hst]
  obtain ⟨hbegins, -⟩ := hruns hs st hstep
  exact hbegins

end Sys2Proof.Machine

namespace Sys2Proof.Proofs

open Sys2Proof.Machine Sys2Proof.Safety Sys2Proof.Spec

/-- Settles O25: the row of a due end timer is the boundary procedure, with an outcome that no timeout action stops. -/
theorem stepEndTimerRunsTheBoundary : Obligations.StepEndTimerRunsTheBoundary := fun _ _ r _ hr hc ha ht =>
  ⟨_, exec_stepEndTimer_of_due hr ha ht, boundary_taken hc (noFault_of_endTimer _ r.amended)⟩

/-- Settles O26: under NOTE by the boundary procedure, under FAULT by its stage 2. -/
theorem blankingEndAndStepTimeout : Obligations.BlankingEndAndStepTimeout := by
  intro s n r c hr hc ha
  refine ⟨fun hb ht => exec_blankingEnd_of_due hr ha hb ht, fun ht => ⟨fun hnote => ?_, fun hfault hstate => ?_⟩⟩
  · have ho : noFault (s.lane n) .timeout := fun h => by simp [hnote] at h
    exact ⟨_, exec_stepTimeout_of_due hr ha ht, boundary_taken hc ho⟩
  · have hoff : (s.lane n).state ≠ .off := fun h => by simp [h] at hstate
    have hsafe : (s.lane n).state ≠ .safe := fun h => by simp [h] at hstate
    have hstands := ((Stands.start n s).reportStep c .timeout r.step.duration).dropStep
    obtain ⟨honly, hin, hset⟩ := hstands.entersSafe (.timeout c.entry.serial c.index) hoff hsafe
    refine ⟨_, exec_stepTimeout_of_due hr ha ht, ?_⟩
    rw [boundary_of_timeoutFault hc hfault]
    refine ⟨honly, hin, ?_⟩
    rw [hset, List.nil_append, entryCut, hc]
    rfl

/-- Settles O29: the boundary event stands behind what the leader's row sends, carries no report, and finds the follower as it was. -/
theorem leaderBoundaryEndsAFollowStep : Obligations.LeaderBoundaryEndsAFollowStep := by
  intro s n m hleader hne
  refine ⟨fun r c slot repeats st hr hc hs ha ht hbody hst => ?_, fun f d hf hd => take_leaderBoundary_boundary hf hd,
    take_leaderBoundary_of_not⟩
  obtain ⟨-, -, ⟨hshape, hlane, -⟩, -, hset⟩ :=
    boundary_begins_next (ticks := r.step.duration) (quiet := false) hc (noFault_of_endTimer _ r.amended) hs hbody hst
  have hnow := congrArg State.now hshape
  have hsent := List.mem_append_right (s.setOff ++ sent (stepReports (s.lane n).config.policy (.stepEnd n c.entry.serial c.index c.pass
    (if r.amended then .amended else .time) r.step.duration))) (leaderBoundary_mem_toFollowers hleader)
  obtain ⟨standing, htake⟩ := exists_takeable_of_bare (hset ▸ hsent) rfl
  refine ⟨_, standing, exec_stepEndTimer_of_due hr ha ht, hlane m hne, hnow, htake, fun f d hf hd hadv hpast => ?_⟩
  generalize s.boundary n _ _ false = t at hlane hnow
  have htaken := take_leaderBoundary_boundary (s := { t with setOff := standing }) (m := m) ((congrArg LaneRec.run (hlane m hne)).trans hf)
    ((congrArg LaneRec.current (hlane m hne)).trans hd) hadv hpast
  have hsame : State.lane { t with setOff := standing } m = s.lane m := hlane m hne
  rw [hsame] at htaken
  simpa only [hnow] using htaken

end Sys2Proof.Proofs

/-! PROOFS. START (R72 to R76): the order of its checks, and what the lanes of its set do one after the other in its one event. -/

namespace Sys2Proof.Machine

open Sys2Proof.Safety Sys2Proof.Spec

variable {s t u v : State} {n m : LaneNo} {lanes : LaneSet} {mode : Byte} {ns : List LaneNo} {code : ResultCode}

/-! ### The lanes of a set, in their order -/

theorem mem_lanesOf : n ∈ lanesOf lanes ↔ laneIn lanes n = true := by
  simp [lanesOf]

theorem lanesOf_sorted (lanes : LaneSet) : (lanesOf lanes).Pairwise (· < ·) := (List.pairwise_lt_finRange 4).filter _

theorem lanesOf_zero : lanesOf 0 = [] := by decide

theorem lanesOf_ne_nil (h : lanes ≠ 0) : lanesOf lanes ≠ [] := by
  intro hnil
  refine h (BitVec.eq_of_getLsbD_eq fun i hi => ?_)
  have hout : (⟨i, hi⟩ : LaneNo) ∉ lanesOf lanes := by simp [hnil]
  rw [mem_lanesOf, Bool.not_eq_true] at hout
  rw [BitVec.ofNat_eq_ofNat, BitVec.getLsbD_zero]
  exact hout

/-- The lanes that stand before one of the set are those of the set with a lower number. -/
theorem mem_before_iff {before after : List LaneNo} (h : lanesOf lanes = before ++ n :: after) :
    m ∈ before ↔ m < n ∧ laneIn lanes m = true := by
  have hsorted := h ▸ lanesOf_sorted lanes
  obtain ⟨-, hafter, hcross⟩ := List.pairwise_append.1 hsorted
  obtain ⟨hlater, -⟩ := List.pairwise_cons.1 hafter
  refine ⟨fun hm => ⟨hcross m hm n List.mem_cons_self, ?_⟩, fun ⟨hlt, hm⟩ => ?_⟩
  · rw [← mem_lanesOf, h]
    exact List.mem_append_left _ hm
  · rw [← mem_lanesOf, h, List.mem_append, List.mem_cons] at hm
    rcases hm with hm | rfl | hm
    · exact hm
    · exact absurd hlt (lt_irrefl _)
    · exact absurd hlt (hlater m hm).asymm

/-! ### Check 2 -/

/-- What makes a lane fail check 2 of START, with the result code of the failure (R72). -/
def LaneRec.startFault (r : LaneRec) (code : ResultCode) : Prop :=
  (r.state ≠ .idle ∧ code = .wrongState) ∨ (r.state = .idle ∧ r.queue = [] ∧ code = .empty)

theorem startFailure_cons_of_startable (h : (s.lane n).startable) : s.startFailure (n :: ns) = s.startFailure ns := by
  obtain ⟨hs, hq⟩ := h
  rw [State.startFailure, if_neg (not_not.2 hs), if_neg hq]

theorem startFailure_cons_of_fault (h : (s.lane n).startFault code) : s.startFailure (n :: ns) = some (n, code) := by
  obtain ⟨hs, rfl⟩ | ⟨hs, hq, rfl⟩ := h
  · rw [State.startFailure, if_pos hs]
  · rw [State.startFailure, if_neg (not_not.2 hs), if_pos hq]

/-- A lane either passes check 2 or fails it with one of its two codes. -/
theorem startable_or_fault (r : LaneRec) : r.startable ∨ ∃ code, r.startFault code := by
  by_cases hs : r.state = .idle
  · by_cases hq : r.queue = []
    · exact Or.inr ⟨_, Or.inr ⟨hs, hq, rfl⟩⟩
    · exact Or.inl ⟨hs, hq⟩
  · exact Or.inr ⟨_, Or.inl ⟨hs, rfl⟩⟩

/-- Every lane of the list passes check 2. -/
theorem startFailure_of_startable (h : ∀ n ∈ ns, (s.lane n).startable) : s.startFailure ns = none := by
  induction ns with
  | nil => rfl
  | cons n ns ih =>
    rw [startFailure_cons_of_startable (h n List.mem_cons_self)]
    exact ih fun m hm => h m (List.mem_cons_of_mem n hm)

/-- The first lane of the list that fails check 2 is the one named. -/
theorem startFailure_of_first {before after : List LaneNo} (h : ∀ m ∈ before, (s.lane m).startable) (hn : (s.lane n).startFault code) :
    s.startFailure (before ++ n :: after) = some (n, code) := by
  induction before with
  | nil => exact startFailure_cons_of_fault hn
  | cons m before ih =>
    rw [List.cons_append, startFailure_cons_of_startable (h m List.mem_cons_self)]
    exact ih fun k hk => h k (List.mem_cons_of_mem m hk)

/-- With a lane in the list that does not pass check 2, some lane is the first that fails it. -/
theorem exists_first_fault (hm : m ∈ ns) (h : ¬ (s.lane m).startable) : ∃ before n after code, ns = before ++ n :: after
    ∧ (∀ k ∈ before, (s.lane k).startable) ∧ (s.lane n).startFault code := by
  induction ns with
  | nil => cases hm
  | cons k ns ih =>
    rcases startable_or_fault (s.lane k) with hk | ⟨code, hk⟩
    · have hm : m ∈ ns := (List.mem_cons.1 hm).resolve_left fun e => h (e ▸ hk)
      obtain ⟨before, n, after, code, rfl, hbefore, hn⟩ := ih hm
      exact ⟨k :: before, n, after, code, rfl, List.forall_mem_cons.2 ⟨hk, hbefore⟩, hn⟩
    · exact ⟨[], k, ns, code, rfl, by simp, hk⟩

/-! ### The checks in their order -/

theorem startMode_none_iff {b : Byte} : StartMode.ofCode b = none ↔ 1 < b.toNat := two_codes_none

theorem startLanesEffect_badValue (h : lanes = 0 ∨ 1 < mode.toNat) :
    startLanesEffect lanes mode s = (s, ⟨.badValue, .started none s.laneStates, none⟩) := by
  unfold startLanesEffect
  split
  · rfl
  · rfl
  · next hmode hns =>
    rcases h with rfl | h
    · rw [lanesOf_zero] at hns; cases hns
    · rw [startMode_none_iff.2 h] at hmode; cases hmode

theorem startLanesEffect_fault (hmode : mode.toNat ≤ 1) (h : s.startFailure (lanesOf lanes) = some (n, code)) :
    startLanesEffect lanes mode s = (s, ⟨code, .started (some n) s.laneStates, none⟩) := by
  unfold startLanesEffect
  split
  · next hnone => exact absurd (startMode_none_iff.1 hnone) (Nat.not_lt.2 hmode)
  · next hns => rw [hns] at h; cases h
  · next hns => rw [← hns, h]; rfl

theorem startLanesEffect_accepted {k : StartMode} (hmode : StartMode.ofCode mode = some k) (hne : lanes ≠ 0)
    (h : s.startFailure (lanesOf lanes) = none) : startLanesEffect lanes mode s =
      (s.startSet (lanesOf lanes) k, ⟨.ok, .started none (s.startSet (lanesOf lanes) k).laneStates, none⟩) := by
  unfold startLanesEffect
  rw [hmode]
  split
  · next hnone => cases hnone
  · next hns => exact absurd hns (lanesOf_ne_nil hne)
  · next hk hns =>
    cases hk
    rw [← hns, h]
    rfl

/-- With no interlock block on its way to a lane of the set, START is what its checks and its mode make of the state (R76). -/
theorem startEffect_of_unblocked (h : ∀ n a p, laneIn lanes n = true → SetOff.safe n (.interlock a p) ∉ s.setOff) :
    startEffect lanes mode s = startLanesEffect lanes mode s := by
  rw [startEffect, takeFirst_blocks_of_none fun n hn a p => h n a p (mem_lanesOf.1 hn)]

/-- The lane named by a refusal is the first of the set that fails check 2. -/
theorem startLanesEffect_first (hmode : mode.toNat ≤ 1) (hn : laneIn lanes n = true)
    (hbefore : ∀ m : LaneNo, m < n → laneIn lanes m = true → (s.lane m).startable) (hf : (s.lane n).startFault code) :
    startLanesEffect lanes mode s = (s, ⟨code, .started (some n) s.laneStates, none⟩) := by
  obtain ⟨before, after, hns⟩ := List.append_of_mem (mem_lanesOf.2 hn)
  refine startLanesEffect_fault hmode ?_
  rw [hns]
  refine startFailure_of_first (fun m hm => ?_) hf
  obtain ⟨hlt, hin⟩ := (mem_before_iff hns).1 hm
  exact hbefore m hlt hin

/-! ### Mode NOW -/

theorem Untouched.shape (h : Untouched s t) :
    t = { s with lanes := t.lanes, lines := t.lines, slots := t.slots, faultN := t.faultN, setOff := t.setOff } := by
  cases t
  simp only [State.mk.injEq, true_and]
  exact ⟨h.now, h.phase, h.triggers, h.sync, h.kill, h.rx, h.settings, h.tx, h.keepalive, h.proc, h.pending, h.choices, h.draws⟩

theorem slots_of_kept (h : SlotsKept s t) : t.slots = s.slots := Vector.ext fun i hi => h ⟨i, hi⟩

/-- The lanes of a list have begun their queue heads' first steps in the one event, and nothing else has changed (R73, R88, R89). -/
structure BegunNow (ns : List LaneNo) (s u : State) : Prop where
  untouched : Untouched s u
  slots : SlotsKept s u
  fault : u.faultN = s.faultN
  started : ∀ n ∈ ns, ∀ e rest st, (s.lane n).queue = e :: rest → s.stepAt ⟨e, 0, 1, false⟩ = some st →
    u.lane n = begun { s.lane n with queue := rest } ⟨e, 0, 1, false⟩ st s.now ∧ Applied n st.active s u
  lane : ∀ m, m ∉ ns → u.lane m = s.lane m
  line : ∀ l, (∀ n ∈ ns, (s.line l).owner ≠ some n) → u.line l = s.line l
  setOff : u.setOff = s.setOff ++ ns.flatMap (toFollowers s)

theorem BegunNow.refl (s : State) : BegunNow [] s s :=
  ⟨Untouched.refl s, fun _ => rfl, rfl, by simp, fun _ _ => rfl, fun _ _ => rfl, by simp⟩

theorem BegunNow.shape (h : BegunNow ns s u) : u = { s with lanes := u.lanes, lines := u.lines, setOff := u.setOff } := by
  have hshape := h.untouched.shape
  rw [slots_of_kept h.slots, h.fault] at hshape
  exact hshape

/-- Lane n begins its queue head, and after it the lanes of the list theirs. -/
theorem BegunNow.cons {e : Entry} {rest : List Entry} {st : Step} (hn : n ∉ ns) (hq : (s.lane n).queue = e :: rest)
    (hst : s.stepAt ⟨e, 0, 1, false⟩ = some st) (h : BegunNow ns (s.beginHead n) u) : BegunNow (n :: ns) s u := by
  have hact := laneAct_beginHead s n
  obtain ⟨hlane, happlied, -, hfault, hset⟩ := beginHead_begins hq hst
  have hslots : SlotsKept s (s.beginHead n) := slot_beginHead s n
  refine ⟨hact.untouched.trans h.untouched, fun i => (h.slots i).trans (hslots i), h.fault.trans hfault, ?_, fun m hm => ?_, fun l hl => ?_, ?_⟩
  · refine List.forall_mem_cons.2 ⟨fun e' rest' st' hq' hst' => ?_, fun m hm e' rest' st' hq' hst' => ?_⟩
    · obtain ⟨rfl, rfl⟩ := List.cons.inj (hq.symm.trans hq')
      obtain rfl := Option.some.inj (hst.symm.trans hst')
      refine ⟨(h.lane n hn).trans hlane, fun l hl => ?_⟩
      have howner : ((s.beginHead n).line l).owner = some n := (hact.owner l).trans hl
      rw [h.line l fun k hk ho => hn (Option.some.inj (howner.symm.trans ho) ▸ hk), happlied l hl]
    · have hmn : m ≠ n := fun e => hn (e ▸ hm)
      have hsame := hact.lane m hmn
      have hstep : (s.beginHead n).stepAt ⟨e', 0, 1, false⟩ = some st' := (stepAt_congr (fun i => by rw [hslots i]) _).trans hst'
      obtain ⟨hbegun, hpattern⟩ := h.started m hm e' rest' st' (by rw [hsame]; exact hq') hstep
      rw [hsame, hact.untouched.now] at hbegun
      refine ⟨hbegun, fun l hl => ?_⟩
      have hline : (s.beginHead n).line l = s.line l := hact.lineElse l (by rw [hl]; exact fun e => hmn (Option.some.inj e))
      have hafter := hpattern l (by rw [hline]; exact hl)
      rwa [hline, hact.untouched.now] at hafter
  · obtain ⟨hmn, hm⟩ := not_or.1 (List.mem_cons.not.1 hm)
    exact (h.lane m hm).trans (hact.lane m hmn)
  · obtain ⟨hln, hl⟩ := List.forall_mem_cons.1 hl
    have hline := hact.lineElse l hln
    exact (h.line l (by rw [hline]; exact hl)).trans hline
  · have hto : toFollowers (s.beginHead n) = toFollowers s := funext (toFollowers_congr hact.config)
    rw [h.setOff, hset, hto]
    simp [sent]

/-- Lanes that each have a queue head with a first step begin them, one after the other. -/
theorem begunNow_beginAll (hd : ns.Nodup) (h : ∀ n ∈ ns, ∃ e rest st, (s.lane n).queue = e :: rest ∧ s.stepAt ⟨e, 0, 1, false⟩ = some st) :
    BegunNow ns s (ns.foldl State.beginHead s) := by
  induction ns generalizing s with
  | nil => exact BegunNow.refl s
  | cons n ns ih =>
    obtain ⟨hn, hd⟩ := List.nodup_cons.1 hd
    obtain ⟨⟨e, rest, st, hq, hst⟩, hothers⟩ := List.forall_mem_cons.1 h
    refine (ih hd fun m hm => ?_).cons hn hq hst
    obtain ⟨e', rest', st', hq', hst'⟩ := hothers m hm
    refine ⟨e', rest', st', ?_, (stepAt_congr (fun i => by rw [slot_beginHead]) _).trans hst'⟩
    rw [(laneAct_beginHead s n).lane m fun e => hn (e ▸ hm)]
    exact hq'

/-! ### Mode ON_SYNC -/

theorem shape_armAll (ns : List LaneNo) (s : State) : ns.foldl (fun t n => t.setLaneState n .armed) s =
    { s with lanes := (ns.foldl (fun t n => t.setLaneState n .armed) s).lanes } := by
  induction ns generalizing s with
  | nil => rfl
  | cons n ns ih => exact ih (s.setLaneState n .armed)

theorem lane_armAll (ns : List LaneNo) (s : State) (m : LaneNo) : (ns.foldl (fun t n => t.setLaneState n .armed) s).lane m =
    if m ∈ ns then { s.lane m with state := .armed } else s.lane m := by
  induction ns generalizing s with
  | nil => rfl
  | cons n ns ih =>
    rw [List.foldl_cons, ih]
    by_cases hm : m = n
    · subst hm
      simp only [lane_setLaneState_self, List.mem_cons_self, if_true, ite_self]
    · simp only [lane_setLaneState_ne _ _ _ _ hm, List.mem_cons, hm, false_or]

/-! ### Several lanes in SAFE -/

/-- Nothing but what is in flight has changed: no lane has entered SAFE. -/
theorem inSafe_nil (s : State) (es : List SetOff) : InSafe [] s { s with setOff := es } :=
  ⟨fun _ => rfl, by simp, fun _ _ => rfl, fun _ => rfl, by simp⟩

/-- Lane n enters SAFE, and after it the lanes of the list (R129, R131). -/
theorem InSafe.cons (hn : n ∉ ns) (a : InSafe [n] s v) (b : InSafe ns v u) : InSafe (n :: ns) s u := by
  obtain ⟨halane, hasafe, haline, haslot, hafault⟩ := a
  obtain ⟨hblane, hbsafe, hbline, hbslot, hbfault⟩ := b
  have hother : ∀ m, m ≠ n → v.lane m = s.lane m := fun m hm => (halane m).trans (if_neg (List.mem_singleton.not.2 hm))
  have helse : ∀ l, (s.line l).owner ≠ some n → v.line l = s.line l := fun l hl => haline l (by simpa using hl)
  have hsafe : AtSafeLevels n s v := hasafe n (List.mem_singleton.2 rfl)
  have hneOf : ∀ m ∈ ns, m ≠ n := fun m hm e => hn (e ▸ hm)
  refine ⟨fun m => ?_, List.forall_mem_cons.2 ⟨fun l hl => ?_, fun m hm l hl => ?_⟩, fun l hl => ?_, fun i => ?_, ?_⟩
  · rw [hblane m]
    by_cases hm : m = n
    · subst hm
      rw [if_neg hn, halane m, if_pos (List.mem_singleton.2 rfl), if_pos List.mem_cons_self]
    · simp only [hother m hm, List.mem_cons, hm, false_or]
  · have hv := hsafe l hl
    rw [← hv]
    refine hbline l fun m hm ho => hneOf m hm ?_
    rw [hv] at ho
    exact Option.some.inj (ho.symm.trans hl)
  · have hv := helse l (by rw [hl]; exact fun e => hneOf m hm (Option.some.inj e))
    have hu := hbsafe m hm l (by rw [hv]; exact hl)
    rwa [hv] at hu
  · obtain ⟨hln, hl⟩ := List.forall_mem_cons.1 hl
    have hv := helse l hln
    exact (hbline l (by rw [hv]; exact hl)).trans hv
  · have huses : (ns.map fun m => uses i (v.lane m)) = ns.map fun m => uses i (s.lane m) :=
      List.map_congr_left fun m hm => by rw [hother m (hneOf m hm)]
    simp only [hbslot i, haslot i, huses, List.map_cons, List.map_nil, List.sum_cons, List.sum_nil, Nat.add_zero, Nat.sub_sub]
  · rw [hbfault, hafault]
    simp

/-! ### Interlock blocks that come first (R76, log entry 8) -/

/-- The first interlock block on its way to lane n, and what its lane makes of it. -/
theorem takeFirst_of_blocked (h : s.setOff.any (SetOff.blocks n) = true) : ∃ a p before after,
    s.setOff = before ++ .safe n (.interlock a p) :: after
      ∧ s.takeFirst (SetOff.blocks n) = State.enterSafe { s with setOff := before ++ after } n (.interlock a p) := by
  obtain ⟨e, he⟩ := Option.isSome_iff_exists.1 (List.find?_isSome.2 (List.any_eq_true.1 h))
  obtain ⟨hblocks, before, after, hset, hbefore⟩ := List.find?_eq_some_iff_append.1 he
  obtain ⟨a, p, rfl⟩ := blocks_iff.1 hblocks
  exact ⟨a, p, before, after, hset, takeFirst_of_first hset (fun d hd => by simpa using hbefore d hd) hblocks⟩

theorem takeFirst_of_unblocked (h : s.setOff.any (SetOff.blocks n) = false) : s.takeFirst (SetOff.blocks n) = s :=
  takeFirst_of_none fun e he => by simpa using List.any_eq_false.1 h e he

/-- A report blocks no lane. -/
theorem any_blocks_sent (rs : List Report) (m : LaneNo) : (sent rs).any (SetOff.blocks m) = false := by
  simp [sent, SetOff.blocks]

theorem untouched_setOff (s : State) (es : List SetOff) : Untouched s { s with setOff := es } :=
  ⟨rfl, rfl, rfl, rfl, rfl, rfl, rfl, rfl, rfl, rfl, rfl, rfl, rfl⟩

theorem untouched_takeFirst (s : State) (n : LaneNo) : Untouched s (s.takeFirst (SetOff.blocks n)) := by
  cases h : s.setOff.any (SetOff.blocks n) with
  | false => rw [takeFirst_of_unblocked h]; exact Untouched.refl s
  | true =>
    obtain ⟨a, p, before, after, -, ht⟩ := takeFirst_of_blocked h
    rw [ht]
    exact (untouched_setOff s (before ++ after)).trans
      (laneAct_enterSafe { s with setOff := before ++ after } n (.interlock a p)).untouched

/-- What comes first at lane n is nothing to another lane, nor to the blocks on their way to it. -/
theorem takeFirst_else (s : State) (hm : m ≠ n) : (s.takeFirst (SetOff.blocks n)).lane m = s.lane m
    ∧ (s.takeFirst (SetOff.blocks n)).setOff.any (SetOff.blocks m) = s.setOff.any (SetOff.blocks m) := by
  cases h : s.setOff.any (SetOff.blocks n) with
  | false => rw [takeFirst_of_unblocked h]; exact ⟨rfl, rfl⟩
  | true =>
    obtain ⟨a, p, before, after, hset, ht⟩ := takeFirst_of_blocked h
    obtain ⟨rs, hrs⟩ := setOff_enterSafe { s with setOff := before ++ after } n (.interlock a p)
    have hother : SetOff.blocks m (.safe n (.interlock a p)) = false := by simp [SetOff.blocks, Ne.symm hm]
    rw [ht]
    refine ⟨(laneAct_enterSafe { s with setOff := before ++ after } n (.interlock a p)).lane m hm, ?_⟩
    rw [hrs, hset]
    simp [any_blocks_sent, hother]

/-- An interlock block stands for lane n, which it puts into SAFE (R130). -/
def State.blockHits (s : State) (n : LaneNo) : Bool :=
  s.setOff.any (SetOff.blocks n) && ((s.lane n).state != .off && (s.lane n).state != .safe)

theorem inSafe_takeFirst_of_hit (h : s.blockHits n = true) : InSafe [n] s (s.takeFirst (SetOff.blocks n)) := by
  simp only [State.blockHits, Bool.and_eq_true, bne_iff_ne] at h
  obtain ⟨hblocked, ho, hs⟩ := h
  obtain ⟨a, p, before, after, -, ht⟩ := takeFirst_of_blocked hblocked
  obtain ⟨-, hin, -⟩ := enterSafe_entersSafe (s := { s with setOff := before ++ after }) (n := n) (.interlock a p) ho hs
  rw [ht]
  exact hin

/-- A lane that no block puts into SAFE is left as it is, though one that finds it OFF or in SAFE goes (R130). -/
theorem takeFirst_of_no_hit (h : s.blockHits n = false) : ∃ es, s.takeFirst (SetOff.blocks n) = { s with setOff := es } := by
  cases hb : s.setOff.any (SetOff.blocks n) with
  | false => exact ⟨s.setOff, takeFirst_of_unblocked hb⟩
  | true =>
    obtain ⟨a, p, before, after, -, ht⟩ := takeFirst_of_blocked hb
    refine ⟨before ++ after, ht.trans (enterSafe_unmoved ?_)⟩
    rw [State.blockHits, hb, Bool.true_and, Bool.and_eq_false_iff, bne_eq_false_iff_eq, bne_eq_false_iff_eq] at h
    exact h

/-- What the interlock blocks that have been sent to the lanes of a list leave (R76). -/
def State.blocksTaken (s : State) (ns : List LaneNo) : State := ns.foldl (fun t n => t.takeFirst (SetOff.blocks n)) s

theorem startEffect_eq (lanes : LaneSet) (mode : Byte) (s : State) :
    startEffect lanes mode s = startLanesEffect lanes mode (s.blocksTaken (lanesOf lanes)) := rfl

theorem untouched_blocksTaken (ns : List LaneNo) (s : State) : Untouched s (s.blocksTaken ns) := by
  induction ns generalizing s with
  | nil => exact Untouched.refl s
  | cons n ns ih => exact (untouched_takeFirst s n).trans (ih _)

/-- The lanes that their blocks put into SAFE are in SAFE, and nothing else of the lanes has changed. -/
theorem inSafe_blocksTaken (hd : ns.Nodup) (s : State) : InSafe (ns.filter s.blockHits) s (s.blocksTaken ns) := by
  induction ns generalizing s with
  | nil => exact inSafe_nil s s.setOff
  | cons n ns ih =>
    obtain ⟨hn, hd⟩ := List.nodup_cons.1 hd
    have hrest : ns.filter (s.takeFirst (SetOff.blocks n)).blockHits = ns.filter s.blockHits :=
      List.filter_congr fun m hm => by
        obtain ⟨hlane, hset⟩ := takeFirst_else s (fun e => hn (e ▸ hm) : m ≠ n)
        rw [State.blockHits, State.blockHits, hlane, hset]
    have htail := ih hd (s.takeFirst (SetOff.blocks n))
    rw [hrest] at htail
    cases hh : s.blockHits n with
    | true =>
      rw [List.filter_cons_of_pos hh]
      exact InSafe.cons (fun hm => hn (List.mem_of_mem_filter hm)) (inSafe_takeFirst_of_hit hh) htail
    | false =>
      rw [List.filter_cons_of_neg (by simp [hh])]
      obtain ⟨es, hes⟩ := takeFirst_of_no_hit hh
      have hfold : s.blocksTaken (n :: ns) = ({ s with setOff := es } : State).blocksTaken ns := by
        rw [← hes]; rfl
      rw [hes] at htail
      rw [hfold]
      exact htail

/-- A lane that a block finds is OFF or in SAFE once it has come, so it does not pass check 2 (R72, R76). -/
theorem not_startable_of_blocked (hd : ns.Nodup) (hm : m ∈ ns) (hb : s.setOff.any (SetOff.blocks m) = true) :
    ¬ ((s.blocksTaken ns).lane m).startable := by
  obtain ⟨hlane, -⟩ := inSafe_blocksTaken hd s
  rintro ⟨hidle, -⟩
  rw [hlane m] at hidle
  split at hidle
  · cases hidle
  · next hno => exact hno (List.mem_filter.2 ⟨hm, by simp [State.blockHits, hb, hidle]⟩)

/-- Where no block stands for any lane of the list, none comes first. -/
theorem blocksTaken_of_unblocked (h : ∀ m ∈ ns, s.setOff.any (SetOff.blocks m) = false) : s.blocksTaken ns = s := by
  refine takeFirst_blocks_of_none fun m hm a p hin => ?_
  have hno := List.any_eq_false.1 (h m hm) _ hin
  exact hno (blocks_iff.2 ⟨a, p, rfl⟩)

/-- Where blocks stand for one lane of the list alone, only the first of them comes. -/
theorem blocksTaken_of_one (hd : ns.Nodup) (hn : n ∈ ns) (h : ∀ m ∈ ns, m ≠ n → s.setOff.any (SetOff.blocks m) = false) :
    s.blocksTaken ns = s.takeFirst (SetOff.blocks n) := by
  obtain ⟨before, after, rfl⟩ := List.append_of_mem hn
  obtain ⟨hnot, -⟩ := List.nodup_cons.1 (List.nodup_middle.1 hd)
  have hne : ∀ m ∈ before ++ after, m ≠ n := fun m hm e => hnot (e ▸ hm)
  have hmem : ∀ m ∈ before ++ after, m ∈ before ++ n :: after := fun m hm =>
    List.mem_append.2 ((List.mem_append.1 hm).imp_right (List.mem_cons_of_mem n))
  have hfirst : s.blocksTaken before = s := blocksTaken_of_unblocked fun m hm =>
    have hm := List.mem_append_left after hm
    h m (hmem m hm) (hne m hm)
  have hlast : (s.takeFirst (SetOff.blocks n)).blocksTaken after = s.takeFirst (SetOff.blocks n) := by
    refine blocksTaken_of_unblocked fun m hm => ?_
    have hm := List.mem_append_right before hm
    obtain ⟨-, hset⟩ := takeFirst_else s (hne m hm)
    exact hset.trans (h m (hmem m hm) (hne m hm))
  calc s.blocksTaken (before ++ n :: after)
      = ((s.blocksTaken before).takeFirst (SetOff.blocks n)).blocksTaken after := by
        simp only [State.blocksTaken, List.foldl_append, List.foldl_cons]
    _ = s.takeFirst (SetOff.blocks n) := by rw [hfirst, hlast]

/-- What stands after the first block for a lane has put it into SAFE: the others, and behind them the lane's reports (R131). -/
theorem setOff_takeFirst_of_first {a p : LineNo} {before after : List SetOff} (hset : s.setOff = before ++ .safe n (.interlock a p) :: after)
    (hbefore : before.any (SetOff.blocks n) = false) (ho : (s.lane n).state ≠ .off) (hs : (s.lane n).state ≠ .safe) :
    (s.takeFirst (SetOff.blocks n)).setOff = before ++ after ++ sent (safeReports s n (.interlock a p)) := by
  obtain ⟨-, -, hsent⟩ := enterSafe_entersSafe (s := { s with setOff := before ++ after }) (n := n) (.interlock a p) ho hs
  rw [takeFirst_of_first hset (fun d hd => by simpa using List.any_eq_false.1 hbefore d hd) (blocks_iff.2 ⟨a, p, rfl⟩)]
  exact hsent

/-! ### The row -/

/-- START with no interlock block on its way to a lane of its set is what its checks and its mode make of it. -/
theorem exec_start_of_unblocked {x : Execution} {a : Answer} (hx : Awaited s x (.start lanes mode))
    (hfree : ∀ n a p, laneIn lanes n = true → SetOff.safe n (.interlock a p) ∉ s.setOff) (h : startLanesEffect lanes mode s = (t, a)) :
    exec (.start lanes mode) s = .next (answered t x a) :=
  command_answers hx ((startEffect_of_unblocked hfree).trans h)

/-- The lanes that are blocked and that their blocks put into SAFE, as the statement lists them. -/
theorem filter_blockHits (lanes : LaneSet) (s : State) : (lanesOf lanes).filter s.blockHits =
    ((List.finRange 4).filter fun n => laneIn lanes n && s.setOff.any (SetOff.blocks n)).filter
      fun n => (s.lane n).state != .off && (s.lane n).state != .safe := by
  simp only [lanesOf, List.filter_filter, State.blockHits]
  refine List.filter_congr fun n _ => ?_
  ac_rfl

/-- START with an interlock block on its way to a lane of its set is refused for the first lane that then fails check 2 (R72, R76). -/
theorem exec_start_of_blocked {x : Execution} (hx : Awaited s x (.start lanes mode)) (hmode : mode.toNat ≤ 1) (hm : laneIn lanes m = true)
    (hb : s.setOff.any (SetOff.blocks m) = true) :
    ∃ n code, exec (.start lanes mode) s = .next (answered (s.blocksTaken (lanesOf lanes)) x
        ⟨code, .started (some n) (s.blocksTaken (lanesOf lanes)).laneStates, none⟩)
      ∧ laneIn lanes n = true
      ∧ (∀ k : LaneNo, k < n → laneIn lanes k = true → ((s.blocksTaken (lanesOf lanes)).lane k).startable)
      ∧ ((s.blocksTaken (lanesOf lanes)).lane n).startFault code := by
  have hin := mem_lanesOf.2 hm
  obtain ⟨before, n, after, code, hns, hbefore, hfault⟩ := exists_first_fault hin (not_startable_of_blocked (nodup_lanesOf lanes) hin hb)
  have hn : laneIn lanes n = true := mem_lanesOf.1 (hns ▸ List.mem_append_right before List.mem_cons_self)
  have hlower : ∀ k : LaneNo, k < n → laneIn lanes k = true → ((s.blocksTaken (lanesOf lanes)).lane k).startable := fun k hlt hk =>
    hbefore k ((mem_before_iff hns).2 ⟨hlt, hk⟩)
  exact ⟨n, code, command_answers hx ((startEffect_eq lanes mode s).trans (startLanesEffect_first hmode hn hlower hfault)), hn, hlower, hfault⟩

end Sys2Proof.Machine

namespace Sys2Proof.Proofs

open Sys2Proof.Machine Sys2Proof.Safety Sys2Proof.Spec

/-- Settles O24: the checks in their order, the lanes of the set one after the other in each mode, and the blocks that come first. -/
theorem startChecksAndEffect : Obligations.StartChecksAndEffect := by
  intro s x lanes
  have passes : (∀ n, laneIn lanes n = true → (s.lane n).startable) → s.startFailure (lanesOf lanes) = none := fun h =>
    startFailure_of_startable fun n hn => h n (mem_lanesOf.1 hn)
  refine ⟨fun mode hx hfree => ?_, fun hne hx hfree hready => ?_, fun hne hx hfree hready => ?_, fun mode hx hmode => ?_⟩
  · intro refuse
    refine ⟨fun hbad => exec_start_of_unblocked hx hfree (startLanesEffect_badValue hbad), fun hmode n hn hbefore =>
      ⟨fun hs => ?_, fun hs hq => ?_⟩⟩
    · exact exec_start_of_unblocked hx hfree (startLanesEffect_first hmode hn hbefore (Or.inl ⟨hs, rfl⟩))
    · exact exec_start_of_unblocked hx hfree (startLanesEffect_first hmode hn hbefore (Or.inr ⟨hs, hq, rfl⟩))
  · have hheads : ∀ n ∈ lanesOf lanes, ∃ e rest st, (s.lane n).queue = e :: rest ∧ s.stepAt ⟨e, 0, 1, false⟩ = some st := fun n hn => by
      obtain ⟨-, hhead⟩ := hready n (mem_lanesOf.1 hn)
      exact hhead
    have hpasses := passes fun n hn => by
      obtain ⟨hidle, e, rest, -, hq, -⟩ := hready n hn
      exact ⟨hidle, by simp [hq]⟩
    have hbegun := begunNow_beginAll (nodup_lanesOf lanes) hheads
    refine ⟨_, exec_start_of_unblocked hx hfree (startLanesEffect_accepted (k := .now) rfl hne hpasses), hbegun.shape,
      fun n e rest st hn hq hst => hbegun.started n (mem_lanesOf.2 hn) e rest st hq hst, fun m hm => hbegun.lane m ?_,
      fun l hl => hbegun.line l fun n hn => hl n (mem_lanesOf.1 hn), hbegun.setOff⟩
    rw [mem_lanesOf, hm]
    exact Bool.false_ne_true
  · refine ⟨_, exec_start_of_unblocked hx hfree (startLanesEffect_accepted (k := .onSync) rfl hne (passes hready)),
      shape_armAll (lanesOf lanes) s, fun n => ?_⟩
    simp only [← mem_lanesOf]
    exact lane_armAll (lanesOf lanes) s n
  · intro blocked hblocked
    have hmem : ∀ n, n ∈ blocked ↔ laneIn lanes n = true ∧ s.setOff.any (SetOff.blocks n) = true := fun n => by
      simp [blocked]
    obtain ⟨m, hm⟩ := List.exists_mem_of_ne_nil blocked hblocked
    obtain ⟨hin, hany⟩ := (hmem m).1 hm
    obtain ⟨n, code, hexec, hn, hlower, hfault⟩ := exec_start_of_blocked hx hmode hin hany
    have hsafe := inSafe_blocksTaken (nodup_lanesOf lanes) s
    rw [filter_blockHits] at hsafe
    refine ⟨_, n, code, hexec, hn, hlower, hfault, (untouched_blocksTaken _ s).shape, hsafe, fun k a p before after hone hset hbefore ho hs => ?_⟩
    obtain ⟨hk, -⟩ := (hmem k).1 (hone ▸ List.mem_singleton.2 rfl)
    have hothers : ∀ j ∈ lanesOf lanes, j ≠ k → s.setOff.any (SetOff.blocks j) = false := fun j hj hjk => by
      by_contra hb
      have hblock := (hmem j).2 ⟨mem_lanesOf.1 hj, by simpa using hb⟩
      rw [hone] at hblock
      exact hjk (List.mem_singleton.1 hblock)
    rw [blocksTaken_of_one (nodup_lanesOf lanes) (mem_lanesOf.2 hk) hothers]
    exact setOff_takeFirst_of_first hset hbefore ho hs

end Sys2Proof.Proofs

/-! PROOFS. The input filters (R94, R124, R135): the adoption of a level, which sends no edge, and the edge of a trigger input, which goes to the
lanes that name it. -/

namespace Sys2Proof.Machine

open Sys2Proof.Safety Sys2Proof.Spec

variable {s : State} {i : TrigNo} {v : Level} {e : Edge}

/-! ### A filter whose time is not over -/

theorem triggerSteady_false_iff (s : State) (i : TrigNo) : s.triggerSteady i = false ↔ s.now < (s.trigger i).since + 2 := by
  rw [← Bool.not_eq_true, triggerSteady_iff, not_le]

theorem syncSteady_false_iff (s : State) : s.syncSteady = false ↔ s.now < s.sync.since + 2 := by
  rw [← Bool.not_eq_true, syncSteady_iff, not_le]

theorem killSteady_false_iff (s : State) : s.killSteady = false ↔ s.now < s.kill.since + 10 := by
  rw [← Bool.not_eq_true, killSteady_iff, not_le]

/-- The line is neither at rest nor at the first instant of a pulse exactly when a pulse has been driven for a base period or more. -/
theorem drive_pulled_iff (d : Drive) : ¬ (d = .idle ∨ d = .driving 20) ↔ ∃ r, d = .driving r ∧ r ≠ 20 := by
  cases d <;> simp

/-- SYNC_N cannot have stood high for 0.2 µs: this part has let it go less than that ago, or has pulled it low for a base period (R124). -/
theorem syncFree_false_iff (s : State) :
    s.syncFree = false ↔ s.now < s.sync.releasedAt + 2 ∨ ∃ r, s.sync.drive = .driving r ∧ r ≠ 20 := by
  rw [← Bool.not_eq_true, syncFree_iff, not_and_or, drive_pulled_iff, not_le, or_comm]

/-! ### The adoption of a level -/

/-- Out of pin reset the row is the adoption by the filter it names. -/
theorem exec_filterLevelAdopted_of_released (input : FilteredInput) (v : Level) (h : s.phase ≠ .held) :
    exec (.filterLevelAdopted input v) s = .next (s.adopt input v) :=
  if_neg (mt (isHeld_iff s).1 h)

theorem adopt_trigger (s : State) (i : TrigNo) (v : Level) : s.adopt (.trigger i) v =
    if (s.trigger i).adopted = true ∨ s.now < (s.trigger i).since + 2 then s
    else { s with triggers := s.triggers.set i ⟨v, true, s.now⟩ } := by
  simp only [State.adopt, triggerSteady_false_iff]
  rfl

theorem adopt_syncN (s : State) (v : Level) : s.adopt .syncN v =
    if s.sync.adopted = true ∨ s.syncSteady = false ∨ (v = .high ∧ s.syncFree = false) then s
    else { s with sync := { s.sync with level := v, adopted := true, since := s.now } } := rfl

theorem adopt_syncN_of_early (h : s.sync.adopted = true ∨ s.now < s.sync.since + 2) : s.adopt .syncN v = s := by
  rw [← syncSteady_false_iff] at h
  rw [adopt_syncN, if_pos (h.imp_right Or.inl)]

theorem adopt_syncN_high_of_pulled (h : s.now < s.sync.releasedAt + 2 ∨ ∃ r, s.sync.drive = .driving r ∧ r ≠ 20) :
    s.adopt .syncN .high = s := by
  rw [adopt_syncN, if_pos (Or.inr (Or.inr ⟨rfl, (syncFree_false_iff s).2 h⟩))]

theorem adopt_syncN_of_seen (ha : s.sync.adopted = false) (ht : s.sync.since + 2 ≤ s.now) (hv : v = .high → s.syncFree = true) :
    s.adopt .syncN v = { s with sync := { s.sync with level := v, adopted := true, since := s.now } } := by
  have hsteady := (syncSteady_iff s).2 ht
  rw [adopt_syncN, if_neg]
  rintro (h | h | ⟨hhigh, h⟩)
  · exact absurd (ha.symm.trans h) Bool.false_ne_true
  · exact absurd (h.symm.trans hsteady) Bool.false_ne_true
  · exact absurd (h.symm.trans (hv hhigh)) Bool.false_ne_true

theorem adopt_killN_of_early (h : s.kill.adopted = true ∨ s.now < s.kill.since + 10) : s.adopt .killN v = s := by
  rw [← killSteady_false_iff] at h
  exact if_pos h

/-- KILL_N adopts a level: with its asserted one, after start-up, the assertion goes to the lanes that it reaches (R135, R136). -/
theorem adopt_killN_of_seen (ha : s.kill.adopted = false) (ht : s.kill.since + 10 ≤ s.now) : s.adopt .killN v =
    { s with kill := ⟨decide (v = .low), true, s.now⟩,
             setOff := s.setOff ++ if v = .low ∧ s.phase = .started
               then .reports [.notice .killAsserted] :: (reached s).map (.safe · .kill) else [] } := by
  have hseen : ¬ (s.kill.adopted = true ∨ s.killSteady = false) := by
    rw [ha, killSteady_false_iff]
    exact not_or.2 ⟨Bool.false_ne_true, not_lt.2 ht⟩
  simp only [State.adopt, if_neg hseen]
  by_cases hkill : v = .low ∧ s.phase = .started
  · rw [if_pos hkill, if_pos hkill]
    rfl
  · rw [if_neg hkill, if_neg hkill, List.append_nil]

/-! ### An edge of a trigger input -/

theorem Edge.after_ne_before (e : Edge) : Edge.after e ≠ Edge.before e := by
  cases e <;> decide

/-- The filtered level follows, and the edge stands for every lane that names the input (R94, R95). -/
theorem exec_triggerEdge_of_seen (hp : s.phase ≠ .held) (ha : (s.trigger i).adopted = true) (ht : (s.trigger i).since + 2 ≤ s.now)
    (hl : (s.trigger i).level = Edge.before e) : exec (.triggerEdge i e) s = .next
      { s with triggers := s.triggers.set i ⟨Edge.after e, true, s.now⟩, setOff := s.setOff ++ (s.triggerLanes i).map (.edge · e) } := by
  change execTriggerEdge i e s = _
  rw [execTriggerEdge, if_neg]
  · rfl
  · rw [isHeld_iff, triggerSteady_false_iff, ha]
    rintro (h | h | h | h)
    · exact hp h
    · exact absurd h.symm Bool.false_ne_true
    · exact absurd ht (not_le.2 h)
    · exact h hl

theorem exec_triggerEdge_of_none (h : s.phase = .held ∨ (s.trigger i).adopted = false ∨ s.now < (s.trigger i).since + 2
    ∨ (s.trigger i).level = Edge.after e) : exec (.triggerEdge i e) s = .next s := by
  change execTriggerEdge i e s = _
  rw [execTriggerEdge, if_pos]
  rw [isHeld_iff, triggerSteady_false_iff]
  refine h.imp_right (Or.imp_right (Or.imp_right fun hl => ?_))
  exact hl.trans_ne (Edge.after_ne_before e)

end Sys2Proof.Machine

namespace Sys2Proof.Proofs

open Sys2Proof.Machine Sys2Proof.Safety Sys2Proof.Spec

/-- Settles O42, filter by filter. -/
theorem filterAdoptsALevel : Obligations.FilterAdoptsALevel := by
  intro s v hp
  simp only [exec_filterLevelAdopted_of_released _ _ hp]
  refine ⟨fun i => ?_, fun h => ?_, fun hv h => ?_, fun ha ht hv => ?_, fun h => ?_, fun ha ht => ?_⟩
  · rw [adopt_trigger]
  · rw [adopt_syncN_of_early h]
  · rw [hv, adopt_syncN_high_of_pulled h]
  · rw [adopt_syncN_of_seen ha ht fun hhigh => ?_]
    obtain ⟨hreleased, hdrive⟩ := hv.resolve_left (by rw [hhigh]; exact nofun)
    exact (syncFree_iff s).2 ⟨hdrive, hreleased⟩
  · rw [adopt_killN_of_early h]
  · rw [adopt_killN_of_seen ha ht]

/-- Settles O27, for the two directions of the edge alike. -/
theorem triggerEdgeGoesToItsLanes : Obligations.TriggerEdgeGoesToItsLanes := by
  intro s i e
  cases e with
  | rising => exact ⟨exec_triggerEdge_of_seen (e := .rising), exec_triggerEdge_of_none (e := .rising)⟩
  | falling => exact ⟨exec_triggerEdge_of_seen (e := .falling), exec_triggerEdge_of_none (e := .falling)⟩

end Sys2Proof.Proofs

/-! PROOFS. The intervening commands PAUSE, RESUME, BREAK and AMEND, by the lane's state and by their checks (R110, R112, R118, R120). -/

namespace Sys2Proof.Machine

open Sys2Proof.Safety Sys2Proof.Spec

variable {n : LaneNo} {serial d : Half} {s : State}

/-- The three states in which a lane has a step in progress (Table 5-1). -/
theorem mem_inStep_iff {st : LaneState} :
    st ∈ [LaneState.running, .pausing, .stopping] ↔ ¬ (st ≠ .running ∧ st ≠ .pausing ∧ st ≠ .stopping) := by
  cases st <;> decide

/-! ### PAUSE -/

/-- The answer of a command that has changed the lane's state alone carries the new state (R109). -/
theorem laneAnswer_setLaneState (s : State) (n : LaneNo) (st : LaneState) (code : ResultCode) :
    (s.setLaneState n st).laneAnswer n code = (s.setLaneState n st, ⟨code, .laneState st, none⟩) := by
  rw [State.laneAnswer, lane_setLaneState_self]; rfl

theorem pauseEffect_running (h : (s.lane n).state = .running) :
    pauseEffect n s = (s.setLaneState n .pausing, ⟨.ok, .laneState .pausing, none⟩) := by
  rw [← laneAnswer_setLaneState, pauseEffect, h]

theorem pauseEffect_starved (h : (s.lane n).state = .starved) :
    pauseEffect n s = (s.setLaneState n .paused, ⟨.ok, .laneState .paused, none⟩) := by
  rw [← laneAnswer_setLaneState, pauseEffect, h]

/-- A lane that pauses or has paused stays as it is (R110). -/
theorem pauseEffect_again (h : (s.lane n).state = .pausing ∨ (s.lane n).state = .paused) :
    pauseEffect n s = s.laneAnswer n .ok := by
  rcases h with h | h <;> rw [pauseEffect, h]

theorem pauseEffect_wrongState (h : (s.lane n).state ∈ [LaneState.off, .idle, .armed, .stopping, .safe]) :
    pauseEffect n s = s.laneAnswer n .wrongState := by
  simp only [List.mem_cons, List.not_mem_nil, or_false] at h
  rcases h with h | h | h | h | h <;> rw [pauseEffect, h]

/-! ### RESUME -/

theorem resumeEffect_pausing (h : (s.lane n).state = .pausing) :
    resumeEffect n s = (s.setLaneState n .running, ⟨.ok, .laneState .running, none⟩) := by
  rw [← laneAnswer_setLaneState, resumeEffect, h]

/-- A PAUSED lane that resumes: RUNNING, then stages 6 and 7 without a report (R112). -/
def State.resumed (s : State) (n : LaneNo) : State := (s.setLaneState n .running).nextStep n true

theorem resumeEffect_paused (h : (s.lane n).state = .paused) : resumeEffect n s = (s.resumed n).laneAnswer n .ok := by
  rw [resumeEffect, h]; rfl

theorem resumeEffect_wrongState (hpausing : (s.lane n).state ≠ .pausing) (hpaused : (s.lane n).state ≠ .paused) :
    resumeEffect n s = s.laneAnswer n .wrongState := by
  cases h : (s.lane n).state with
  | pausing => exact absurd h hpausing
  | paused => exact absurd h hpaused
  | off | idle | armed | running | starved | stopping | safe => rw [resumeEffect, h]

/-- Before stage 6 only the state of the lane that resumes has changed. -/
theorem stands_running (s : State) (n : LaneNo) :
    Stands n { s.lane n with state := .running } [] (fun _ => 0) s (s.setLaneState n .running) :=
  (Stands.start n s).setLaneState .running

theorem slotsKept_resumed (s : State) (n : LaneNo) : SlotsKept s (s.resumed n) := fun i => by
  rw [State.resumed, slot_nextStep, slot_setLaneState]

/-- With an entry that was to go on, its next step begins (R87, R88). -/
theorem begins_resumed {c : Current} {st : Step} (hc : (s.lane n).current = some c) (hst : s.stepAt c = some st) :
    Begins n (s.lane n) c st [] s (s.resumed n) := by
  have h := stands_running s n
  rw [State.resumed, nextStep_of_current (by rw [h.lane, hc])]
  exact h.begins hst

/-- With no current entry, the queue head begins, or the end action is taken (R87). -/
theorem goes_resumed (hc : (s.lane n).current = none) : Goes n (s.lane n) [] true s (s.resumed n) :=
  (stands_running s n).goes hc true

/-! ### BREAK -/

theorem breakEffect_wrongState (h : (s.lane n).current = none) :
    breakEffect n s = (s, ⟨.wrongState, .marked (s.lane n).state 0, none⟩) := by
  rw [breakEffect, h]; rfl

theorem breakEffect_wrongEntry {st : Step} {index pass : Nat} {mark : Bool}
    (h : (s.lane n).current = some ⟨⟨serial, .step st⟩, index, pass, mark⟩) :
    breakEffect n s = (s, ⟨.wrongEntry, .marked (s.lane n).state serial, none⟩) := by
  rw [breakEffect, h]; rfl

theorem breakEffect_marks {slot : SlotNo} {repeats index pass : Nat} {mark : Bool}
    (h : (s.lane n).current = some ⟨⟨serial, .play slot repeats⟩, index, pass, mark⟩) :
    breakEffect n s = (s.updLane n fun r => { r with current := some ⟨⟨serial, .play slot repeats⟩, index, pass, true⟩ },
      ⟨.ok, .marked (s.lane n).state serial, none⟩) := by
  rw [breakEffect, h]; rfl

/-! ### AMEND: the checks -/

/-- The new d is too short for the lane's guard, or for the blanking of a step that an event may end (check 5 of R120). -/
abbrev amendTooShort (g : LaneConfig) (r : StepRun) (d : Half) : Prop :=
  d.toNat * 2 ^ g.tickExp ≤ g.guard ∨ (r.step.advance ≠ .time ∧ d.toNat ≤ g.blanking)

theorem amendCheck_wrongState (h : (s.lane n).state ∉ [LaneState.running, .pausing, .stopping]) :
    amendCheck n serial d s = .error .wrongState := by
  rw [amendCheck, if_pos (not_not.1 (mt mem_inStep_iff.2 h))]

section Checks

variable {c : Current} {r : StepRun} {st : Step}

theorem amendCheck_badValue (h : (s.lane n).state ∈ [LaneState.running, .pausing, .stopping]) (hc : (s.lane n).current = some c)
    (hr : (s.lane n).run = some r) (hd : d = 0) : amendCheck n serial d s = .error .badValue := by
  rw [amendCheck, if_neg (mem_inStep_iff.1 h), hc, hr]
  exact if_pos hd

theorem amendCheck_wrongEntry (h : (s.lane n).state ∈ [LaneState.running, .pausing, .stopping]) (hc : (s.lane n).current = some c)
    (hr : (s.lane n).run = some r) (hd : d ≠ 0) {slot : SlotNo} {repeats : Nat} (hb : c.entry.body = .play slot repeats) :
    amendCheck n serial d s = .error .wrongEntry := by
  simp only [amendCheck, if_neg (mem_inStep_iff.1 h), hc, hr, if_neg hd, hb]

/-- Checks 4 and 5, for the STEP entry that the lane plays (R120). -/
theorem amendCheck_of_step (h : (s.lane n).state ∈ [LaneState.running, .pausing, .stopping]) (hc : (s.lane n).current = some c)
    (hr : (s.lane n).run = some r) (hd : d ≠ 0) (hb : c.entry.body = .step st) :
    amendCheck n serial d s = if c.entry.serial ≠ serial then .error .stale
      else if amendTooShort (s.lane n).config r d then .error .tooShort else .ok r := by
  simp only [amendCheck, if_neg (mem_inStep_iff.1 h), hc, hr, if_neg hd, hb]
  rfl

/-! ### AMEND: its effect -/

theorem amendEffect_refused {code : ResultCode} (h : amendCheck n serial d s = .error code) :
    amendEffect n serial d s = s.laneAnswer n code := by
  rw [amendEffect, h]

/-- A d not above the elapsed ticks ends the step at once (R120). -/
theorem amendEffect_ends (h : amendCheck n serial d s = .ok r) (hd : d.toNat ≤ s.elapsed n) :
    amendEffect n serial d s = (s.boundary n .amended (s.elapsed n) true).laneAnswer n .ok := by
  rw [amendEffect, h]
  exact if_pos hd

/-- A longer d moves the timer of the step in progress (R120). -/
def State.amended (s : State) (n : LaneNo) (r : StepRun) (d : Half) : State :=
  s.updLane n fun y => { y with run := some { r with step := { r.step with duration := d.toNat }, amended := true } }

theorem amendEffect_moves (h : amendCheck n serial d s = .ok r) (hd : s.elapsed n < d.toNat) :
    amendEffect n serial d s = (s.amended n r d, ⟨.ok, .laneState (s.lane n).state, none⟩) := by
  rw [amendEffect, h]
  refine (if_neg (not_le.2 hd)).trans ?_
  rw [State.laneAnswer, lane_updLane_self]
  rfl

theorem elapsed_of_run (hr : (s.lane n).run = some r) : s.elapsed n = (s.now - r.startedAt) / 2 ^ (s.lane n).config.tickExp := by
  rw [State.elapsed, hr]

end Checks

end Sys2Proof.Machine

namespace Sys2Proof.Proofs

open Sys2Proof.Machine Sys2Proof.Spec

/-- Settles O30, by the lane's state. -/
theorem pauseAndResumeByLaneState : Obligations.PauseAndResumeByLaneState := by
  intro s x n
  refine ⟨fun hx => ⟨fun h => ?_, fun h => ?_, fun h => ?_, fun h => ?_⟩, fun hx => ⟨fun h => ?_, fun h => ?_, fun hpausing hpaused => ?_⟩⟩
  · exact command_answers hx (pauseEffect_running h)
  · exact command_answers hx (pauseEffect_starved h)
  · exact command_answers hx (pauseEffect_again h)
  · exact command_answers hx (pauseEffect_wrongState h)
  · exact command_answers hx (resumeEffect_pausing h)
  · exact ⟨s.resumed n, command_answers hx (resumeEffect_paused h), slotsKept_resumed s n, fun _ _ => begins_resumed, goes_resumed⟩
  · exact command_answers hx (resumeEffect_wrongState hpausing hpaused)

/-- Settles O33: check by check, and past the checks by the elapsed ticks; the outcome AMENDED is one that no timeout action stops. -/
theorem amendChecksAndEffect : Obligations.AmendChecksAndEffect := by
  intro s x n serial d hx refuse
  have refused : ∀ {code}, amendCheck n serial d s = .error code → refuse code := fun h => command_answers hx (amendEffect_refused h)
  refine ⟨fun h => refused (amendCheck_wrongState h), ?_⟩
  intro h c r hc hr tooShort ticks
  refine ⟨fun hd => refused (amendCheck_badValue h hc hr hd), fun hd =>
    ⟨fun _ _ hb => refused (amendCheck_wrongEntry h hc hr hd hb), fun st hb => ?_⟩⟩
  have hcheck := amendCheck_of_step (serial := serial) h hc hr hd hb
  refine ⟨fun hstale => refused ?_, fun hserial => ⟨fun hshort => refused ?_, fun hlong => ?_⟩⟩
  · rw [hcheck, if_pos hstale]
  · rw [hcheck, if_neg (not_not.2 hserial), if_pos hshort]
  · rw [if_neg (not_not.2 hserial), if_neg hlong] at hcheck
    have helapsed : s.elapsed n = ticks := elapsed_of_run hr
    refine ⟨fun hmoves => command_answers hx (amendEffect_moves hcheck (helapsed ▸ hmoves)), fun hends => ?_⟩
    refine ⟨s.boundary n .amended ticks true, command_answers hx ?_, boundary_taken hc (by rintro ⟨⟨⟩, -⟩)⟩
    rw [amendEffect_ends hcheck (helapsed ▸ hends), helapsed]
    rfl

/-- Settles O32, by the current entry. -/
theorem breakMarksThePlayEntry : Obligations.BreakMarksThePlayEntry := fun _ _ _ hx =>
  ⟨fun h => command_answers hx (breakEffect_wrongState h), fun _ _ _ _ _ h => command_answers hx (breakEffect_wrongEntry h),
    fun _ _ _ _ _ _ h => command_answers hx (breakEffect_marks h)⟩

end Sys2Proof.Proofs

/-! PROOFS. The sync line (R124, R125, R127): the pulse that this part drives, and the two edges of the filtered level. -/

namespace Sys2Proof.Machine

open Sys2Proof.Safety Sys2Proof.Spec

variable {s : State}

/-! ### The pulse -/

theorem pulseSyncEffect_idle (h : s.sync.drive = .idle) :
    pulseSyncEffect s = ({ s with sync := { s.sync with drive := .driving 20 } }, ⟨.ok, .none, none⟩) := by
  rw [pulseSyncEffect, h]; rfl

theorem pulseSyncEffect_busy {r : Nat} (h : s.sync.drive = .driving r) : pulseSyncEffect s = (s, ⟨.busy, .none, none⟩) := by
  rw [pulseSyncEffect, h]; rfl

/-- The line is released, and the filter counts from here (R124, R127). -/
theorem exec_syncPulseExpiry_of_due (h : s.sync.drive = .driving 0) :
    exec .syncPulseExpiry s = .next { s with sync := { s.sync with drive := .idle, releasedAt := s.now } } := by
  change execSyncPulseExpiry s = _
  rw [execSyncPulseExpiry, if_pos h, SyncUnit.release, h]

/-! ### The filtered level -/

/-- SYNC_N has no edge: in pin reset, before the filter has adopted a level, at the level that it would go to, or before another can have
stood for 0.2 µs (R124). -/
abbrev State.syncStill (s : State) (v : Level) : Prop :=
  s.phase = .held ∨ s.sync.adopted = false ∨ s.sync.level = v ∨ s.now < s.sync.since + 2

theorem not_syncStill {v w : Level} (hvw : w ≠ v) (hp : s.phase ≠ .held) (ha : s.sync.adopted = true) (hl : s.sync.level = w)
    (ht : s.sync.since + 2 ≤ s.now) : ¬ s.syncStill v := by
  rintro (h | h | h | h)
  · exact hp h
  · exact absurd (ha.symm.trans h).symm Bool.false_ne_true
  · exact hvw (hl.symm.trans h)
  · exact absurd ht (not_le.2 h)

/-- The filtered level falls, and the edge goes to the ARMED lanes (R124, R125). -/
theorem exec_syncEdge_of_seen (h : ¬ s.syncStill .low) : exec .syncEdge s = .next
    { s with sync := { s.sync with level := .low, since := s.now }, setOff := s.setOff ++ s.armedLanes.map .syncEdge } := by
  refine if_neg fun hno => h ?_
  rw [isHeld_iff, syncSteady_false_iff] at hno
  exact hno.imp_right (Or.imp_right Or.symm)

theorem exec_syncEdge_of_still (h : s.syncStill .low) : exec .syncEdge s = .next s := by
  refine if_pos ?_
  rw [isHeld_iff, syncSteady_false_iff]
  exact h.imp_right (Or.imp_right Or.symm)

/-- SYNC_LOW_TO_HIGH asks besides that this part has let the line go (R124). -/
theorem execSyncLowToHigh_eq (s : State) : execSyncLowToHigh s =
    if s.syncStill .high ∨ s.syncFree = false then .next s
    else .next { s with sync := { s.sync with level := .high, since := s.now } } := by
  have hcond : (s.isHeld = true ∨ s.sync.adopted = false ∨ s.syncSteady = false ∨ s.syncFree = false ∨ s.sync.level = .high)
      ↔ s.syncStill .high ∨ s.syncFree = false := by
    rw [isHeld_iff, syncSteady_false_iff, State.syncStill]
    tauto
  simp only [execSyncLowToHigh, hcond]

theorem exec_syncLowToHigh_of_seen (h : ¬ s.syncStill .high) (hfree : s.syncFree = true) :
    exec .syncLowToHigh s = .next { s with sync := { s.sync with level := .high, since := s.now } } := by
  change execSyncLowToHigh s = _
  rw [execSyncLowToHigh_eq, if_neg (not_or.2 ⟨h, by simp [hfree]⟩)]

theorem exec_syncLowToHigh_of_none (h : s.syncStill .high ∨ s.syncFree = false) : exec .syncLowToHigh s = .next s := by
  change execSyncLowToHigh s = _
  rw [execSyncLowToHigh_eq, if_pos h]

end Sys2Proof.Machine

namespace Sys2Proof.Proofs

open Sys2Proof.Machine Sys2Proof.Spec

/-- Settles O35: the pulse from its command to its expiry, then the rise of the line. -/
theorem syncDriveRunsItsPulse : Obligations.SyncDriveRunsItsPulse := by
  intro s
  refine ⟨fun x hx h => command_answers hx (pulseSyncEffect_idle h), fun x r hx h => command_answers hx (pulseSyncEffect_busy h),
    exec_syncPulseExpiry_of_due, fun hp ha hl ht hreleased hdrive => ?_, fun h => exec_syncLowToHigh_of_none ?_⟩
  · exact exec_syncLowToHigh_of_seen (not_syncStill (by decide) hp ha hl ht) ((syncFree_iff s).2 ⟨hdrive, hreleased⟩)
  · rw [syncFree_false_iff, State.syncStill]
    simpa only [or_assoc] using h

/-- Settles O36: an edge that the filter has seen, and none. -/
theorem syncEdgeGoesToArmedLanes : Obligations.SyncEdgeGoesToArmedLanes := fun _ =>
  ⟨fun hp ha hl ht => exec_syncEdge_of_seen (not_syncStill (by decide) hp ha hl ht), exec_syncEdge_of_still⟩

end Sys2Proof.Proofs

/-! PROOFS. What every command row has in common (R109, R159, R161): it is the event of the frame in execution, and a refusal leaves the state. -/

namespace Sys2Proof.Machine

open Sys2Proof.Safety Sys2Proof.Spec

variable {s : State} {r : State × Answer}

/-! ### A command that is not awaited -/

theorem awaits_iff {x : Execution} {c : Instr} : x.awaits c = true ↔ x.answer = none ∧ decodeFrame x.frame = .ok c := by
  rw [Execution.awaits, Bool.and_eq_true, Option.isNone_iff_eq_none, Frame.carries]
  cases decodeFrame x.frame <;> simp

/-- A command row that the Command Processor does not await is no event (log entry 1). -/
theorem command_of_unawaited {c : Instr} (h : ¬ ∃ x, Awaited s x c) (effect : State → State × Answer) : s.command c effect = .next s := by
  refine command_other (fun x hp => ?_) effect
  rw [← Bool.not_eq_true, awaits_iff]
  exact fun hx => h ⟨x, hp, hx⟩

/-! ### A refusal -/

/-- If the answer is a refusal, the state is still s (R109). -/
def KeptOnRefusal (s : State) (r : State × Answer) : Prop := r.2.code ≠ .ok → r.1 = s

theorem KeptOnRefusal.accepted (h : r.2.code = .ok) : KeptOnRefusal s r := fun hno => absurd h hno

theorem KeptOnRefusal.refused (s : State) (a : Answer) : KeptOnRefusal s (s, a) := fun _ => rfl

/-- A check that refuses, before what comes next. -/
theorem KeptOnRefusal.check {p : Prop} [Decidable p] {a : Answer} (h : KeptOnRefusal s r) : KeptOnRefusal s (if p then (s, a) else r) := by
  split
  · exact .refused s a
  · exact h

/-! ### The link and the whole part -/

theorem keptOnRefusal_getStatus (scope arg : Byte) (s : State) : KeptOnRefusal s (getStatusEffect scope arg s) := by
  unfold getStatusEffect
  split
  · exact .accepted rfl
  · exact .refused s _

theorem keptOnRefusal_setLink (rate parity : Byte) (window : Half) (s : State) : KeptOnRefusal s (setLinkEffect rate parity window s) := by
  unfold setLinkEffect
  split
  · split
    · exact .accepted rfl
    · exact .refused s _
  · exact .refused s _

theorem keptOnRefusal_pulseSync (s : State) : KeptOnRefusal s (pulseSyncEffect s) := by
  unfold pulseSyncEffect
  split
  · exact .accepted rfl
  · exact .refused s _

/-! ### The line table and the library -/

theorem keptOnRefusal_configLine (line polarity safeLevel : Byte) (s : State) :
    KeptOnRefusal s (configLineEffect line polarity safeLevel s) := by
  unfold configLineEffect
  split
  · exact .check (.accepted rfl)
  · exact .refused s _

theorem keptOnRefusal_setPair (a b : Byte) (s : State) : KeptOnRefusal s (setPairEffect a b s) := by
  unfold setPairEffect
  split
  · exact .check (.check (.check (.check (.accepted rfl))))
  · exact .refused s _

theorem keptOnRefusal_clearPair (a : Byte) (s : State) : KeptOnRefusal s (clearPairEffect a s) := by
  unfold clearPairEffect
  split
  · split
    · exact .check (.accepted rfl)
    · exact .refused s _
  · exact .refused s _

theorem keptOnRefusal_openSeq (id length : Byte) (s : State) : KeptOnRefusal s (openSeqEffect id length s) := by
  unfold openSeqEffect
  split
  · exact .refused s _
  · exact .check (.check (.check (.accepted rfl)))

theorem keptOnRefusal_appendSeq (id offset : Byte) (raw : List RawStep) (s : State) :
    KeptOnRefusal s (appendSeqEffect id offset raw s) := by
  unfold appendSeqEffect
  split
  · exact .refused s _
  · dsimp only
    split
    · exact .refused s _
    · exact .refused s _
    · refine .check (.check ?_)
      split
      · exact .refused s _
      · exact .accepted rfl

theorem keptOnRefusal_deleteSeq (id : Byte) (s : State) : KeptOnRefusal s (deleteSeqEffect id s) := by
  unfold deleteSeqEffect
  split
  · exact .refused s _
  · exact .check (.check (.accepted rfl))

/-! ### Lanes and entries -/

/-- CONFIG_LANE with no cause of safe hold on its way to its lane (R36). -/
theorem keptOnRefusal_configLane {n : LaneNo} (raw : RawConfig) (h : ∀ c, SetOff.safe n c ∉ s.setOff) :
    KeptOnRefusal s (configLaneEffect n raw s) := by
  rw [configLaneEffect, takeFirst_holds_of_none h, configureEffect]
  split
  · exact .refused s _
  · exact .accepted rfl

theorem keptOnRefusal_enqueue (n : LaneNo) (entries : List RawEntry) (s : State) : KeptOnRefusal s (enqueueEffect n entries s) := by
  unfold enqueueEffect
  split
  · exact .refused s _
  · exact .accepted rfl

/-- START with no interlock block on its way to a lane of its set (R76). -/
theorem keptOnRefusal_start {lanes : LaneSet} (mode : Byte) (h : ∀ n a p, laneIn lanes n = true → SetOff.safe n (.interlock a p) ∉ s.setOff) :
    KeptOnRefusal s (startEffect lanes mode s) := by
  rw [startEffect_of_unblocked h, startLanesEffect]
  split
  · exact .refused s _
  · exact .refused s _
  · split
    · exact .refused s _
    · exact .accepted rfl

/-! ### Intervening commands and safe hold -/

theorem keptOnRefusal_pause (n : LaneNo) (s : State) : KeptOnRefusal s (pauseEffect n s) := by
  cases h : (s.lane n).state with
  | running => rw [pauseEffect_running h]; exact .accepted rfl
  | starved => rw [pauseEffect_starved h]; exact .accepted rfl
  | pausing | paused => rw [pauseEffect_again (by simp [h])]; exact .accepted rfl
  | off | idle | armed | stopping | safe => rw [pauseEffect_wrongState (by simp [h])]; exact .refused s _

theorem keptOnRefusal_resume (n : LaneNo) (s : State) : KeptOnRefusal s (resumeEffect n s) := by
  by_cases hpausing : (s.lane n).state = .pausing
  · rw [resumeEffect_pausing hpausing]; exact .accepted rfl
  · by_cases hpaused : (s.lane n).state = .paused
    · rw [resumeEffect_paused hpaused]; exact .accepted rfl
    · rw [resumeEffect_wrongState hpausing hpaused]; exact .refused s _

theorem keptOnRefusal_stop (n : LaneNo) (mode : Byte) (s : State) : KeptOnRefusal s (stopEffect n mode s) := by
  unfold stopEffect
  split
  · exact .refused s _
  · exact .check (.accepted rfl)

theorem keptOnRefusal_break (n : LaneNo) (s : State) : KeptOnRefusal s (breakEffect n s) := by
  unfold breakEffect
  split
  · exact .refused s _
  · split
    · exact .refused s _
    · exact .accepted rfl

theorem keptOnRefusal_amend (n : LaneNo) (serial d : Half) (s : State) : KeptOnRefusal s (amendEffect n serial d s) := by
  cases h : amendCheck n serial d s with
  | error code => rw [amendEffect_refused h]; exact .refused s _
  | ok r =>
    rcases le_or_gt d.toNat (s.elapsed n) with hd | hd
    · rw [amendEffect_ends h hd]; exact .accepted rfl
    · rw [amendEffect_moves h hd]; exact .accepted rfl

theorem keptOnRefusal_flush (n : LaneNo) (s : State) : KeptOnRefusal s (flushEffect n s) := .check (.accepted rfl)

theorem keptOnRefusal_abort (lanes : LaneSet) (s : State) : KeptOnRefusal s (abortEffect lanes s) := .check (.accepted rfl)

theorem keptOnRefusal_clearFault (n : LaneNo) (s : State) : KeptOnRefusal s (clearFaultEffect n s) := .check (.check (.accepted rfl))

/-! ### Every command row -/

/-- Nothing in flight comes before the command: no cause of safe hold at the lane of a CONFIG_LANE, and no interlock block at a lane of a START
(R36, R76, log entry 8). -/
structure NothingFirst (c : Instr) (s : State) : Prop where
  config : ∀ n raw, c = .configLane n raw → ∀ cause, SetOff.safe n cause ∉ s.setOff
  start : ∀ lanes mode, c = .start lanes mode → ∀ n a p, laneIn lanes n = true → SetOff.safe n (.interlock a p) ∉ s.setOff

/-- Every command row is the event of its command with an effect, and where nothing comes first the effect's refusals keep the state. -/
theorem exec_command {c : Instr} {k : Byte} {p : List Byte} (hc : c.kindAndPayload = some (k, p)) :
    ∃ effect : State → State × Answer,
      (∀ s, exec c s = s.command c effect) ∧ ∀ s, NothingFirst c s → KeptOnRefusal s (effect s) := by
  cases c with
  | identify => exact ⟨identifyEffect, fun _ => rfl, fun _ _ => .accepted rfl⟩
  | ping => exact ⟨pingEffect, fun _ => rfl, fun _ _ => .accepted rfl⟩
  | getStatus scope arg => exact ⟨getStatusEffect scope arg, fun _ => rfl, fun s _ => keptOnRefusal_getStatus scope arg s⟩
  | setLink rate parity w => exact ⟨setLinkEffect rate parity w, fun _ => rfl, fun s _ => keptOnRefusal_setLink rate parity w s⟩
  | reinit => exact ⟨reinitEffect, fun _ => rfl, fun _ _ => .accepted rfl⟩
  | configLine line pol safe => exact ⟨configLineEffect line pol safe, fun _ => rfl, fun s _ => keptOnRefusal_configLine line pol safe s⟩
  | setPair a b => exact ⟨setPairEffect a b, fun _ => rfl, fun s _ => keptOnRefusal_setPair a b s⟩
  | clearPair a => exact ⟨clearPairEffect a, fun _ => rfl, fun s _ => keptOnRefusal_clearPair a s⟩
  | configLane n raw => exact ⟨configLaneEffect n raw, fun _ => rfl, fun _ h => keptOnRefusal_configLane raw (h.config n raw rfl)⟩
  | enqueue n es => exact ⟨enqueueEffect n es, fun _ => rfl, fun s _ => keptOnRefusal_enqueue n es s⟩
  | start lanes mode => exact ⟨startEffect lanes mode, fun _ => rfl, fun _ h => keptOnRefusal_start mode (h.start lanes mode rfl)⟩
  | openSeq id len => exact ⟨openSeqEffect id len, fun _ => rfl, fun s _ => keptOnRefusal_openSeq id len s⟩
  | appendSeq id offset ss => exact ⟨appendSeqEffect id offset ss, fun _ => rfl, fun s _ => keptOnRefusal_appendSeq id offset ss s⟩
  | deleteSeq id => exact ⟨deleteSeqEffect id, fun _ => rfl, fun s _ => keptOnRefusal_deleteSeq id s⟩
  | pulseSync => exact ⟨pulseSyncEffect, fun _ => rfl, fun s _ => keptOnRefusal_pulseSync s⟩
  | pause n => exact ⟨pauseEffect n, fun _ => rfl, fun s _ => keptOnRefusal_pause n s⟩
  | resume n => exact ⟨resumeEffect n, fun _ => rfl, fun s _ => keptOnRefusal_resume n s⟩
  | stop n mode => exact ⟨stopEffect n mode, fun _ => rfl, fun s _ => keptOnRefusal_stop n mode s⟩
  | breakPass n => exact ⟨breakEffect n, fun _ => rfl, fun s _ => keptOnRefusal_break n s⟩
  | amend n serial d => exact ⟨amendEffect n serial d, fun _ => rfl, fun s _ => keptOnRefusal_amend n serial d s⟩
  | flush n => exact ⟨flushEffect n, fun _ => rfl, fun s _ => keptOnRefusal_flush n s⟩
  | abort lanes => exact ⟨abortEffect lanes, fun _ => rfl, fun s _ => keptOnRefusal_abort lanes s⟩
  | clearFault n => exact ⟨clearFaultEffect n, fun _ => rfl, fun s _ => keptOnRefusal_clearFault n s⟩
  | _ => cases hc

end Sys2Proof.Machine

namespace Sys2Proof.Proofs

open Sys2Proof.Machine Sys2Proof.Spec

/-- Settles O5: each command row is one event with an effect, whose refusals keep the state. -/
theorem refusedCommandChangesNothing : Obligations.RefusedCommandChangesNothing := by
  intro c k p hc s
  obtain ⟨effect, hexec, hkept⟩ := exec_command hc
  simp only [hexec]
  refine ⟨fun x hx => ⟨_, _, command_of_awaited hx effect, rfl, fun hcode hconfig hstart => ?_⟩, fun h => command_of_unawaited h effect⟩
  rw [hkept s ⟨hconfig, hstart⟩ hcode]

end Sys2Proof.Proofs

/-! PROOFS. The causes of safe hold that come from outside a lane: KILL_N, the Keepalive Timer and ABORT (R135 to R139). -/

namespace Sys2Proof.Machine

open Sys2Proof.Safety Sys2Proof.Spec

variable {s t : State} {n m : LaneNo} {ns : List LaneNo} {lanes : LaneSet} {c : SafeCause} {v : Bool}

/-! ### The filtered level of KILL_N -/

/-- KILL_N has no edge: in pin reset, before the filter has adopted a level, before another can have stood for 1 µs, or at the level that it
would go to (R135). -/
abbrev State.killStill (s : State) (asserted : Bool) : Prop :=
  s.isHeld = true ∨ s.kill.adopted = false ∨ s.killSteady = false ∨ s.kill.asserted = asserted

theorem killStill_of_early (h : s.now < s.kill.since + 10) : s.killStill v :=
  Or.inr (Or.inr (Or.inl ((killSteady_false_iff s).2 h)))

theorem not_killStill (hp : s.phase ≠ .held) (ha : s.kill.adopted = true) (ht : s.kill.since + 10 ≤ s.now) (hv : s.kill.asserted ≠ v) :
    ¬ s.killStill v := by
  rw [State.killStill, isHeld_iff, killSteady_false_iff, ha]
  rintro (h | h | h | h)
  · exact hp h
  · exact absurd h.symm Bool.false_ne_true
  · exact absurd ht (not_le.2 h)
  · exact hv h

/-- Events that are set off under a condition. -/
theorem sets_if (p : Prop) [Decidable p] (s : State) (es : List SetOff) :
    (if p then s.sets es else s) = { s with setOff := s.setOff ++ if p then es else [] } := by
  by_cases hp : p
  · rw [if_pos hp, if_pos hp]
    rfl
  · rw [if_neg hp, if_neg hp, List.append_nil]

theorem exec_killAssertion_of_still (h : s.killStill true) : exec .killAssertion s = .next s := if_pos h

theorem exec_killRelease_of_still (h : s.killStill false) : exec .killRelease s = .next s := if_pos h

/-- The filtered level becomes asserted; after start-up the notice goes out, and the assertion to the lanes that it reaches (R135, R136). -/
theorem exec_killAssertion_of_seen (h : ¬ s.killStill true) : exec .killAssertion s = .next
    { s with kill := ⟨true, s.kill.adopted, s.now⟩,
             setOff := s.setOff ++ if s.phase = .started
               then .reports [.notice .killAsserted] :: (reached s).map (.safe · .kill) else [] } :=
  (if_neg h).trans (congrArg Host.Outcome.next (sets_if (s.phase = .started) _ _))

/-- The filtered level becomes deasserted; after start-up the notice goes out, and to no lane anything (R135, R137). -/
theorem exec_killRelease_of_seen (h : ¬ s.killStill false) : exec .killRelease s = .next
    { s with kill := ⟨false, s.kill.adopted, s.now⟩,
             setOff := s.setOff ++ if s.phase = .started then [.reports [.notice .killReleased]] else [] } :=
  (if_neg h).trans (congrArg Host.Outcome.next (sets_if (s.phase = .started) _ _))

/-! ### The keepalive -/

/-- The window has run out: the latch is set, and the expiry goes to the lanes that it reaches (R138, R153). -/
theorem exec_keepaliveExpiry_of_due (hrun : s.keepalive.running = true) (hzero : s.keepalive.remaining = 0) :
    exec .keepaliveExpiry s = .next
      { s with keepalive := { s.keepalive with latch := true },
               setOff := s.setOff ++ .reports [.notice .keepaliveExpired] :: (reached s).map (.safe · .keepalive) } :=
  if_pos ⟨hrun, hzero⟩

/-! ### The lane set of a list -/

theorem laneIn_or (a b : LaneSet) (n : LaneNo) : laneIn (a ||| b) n = (laneIn a n || laneIn b n) := BitVec.getLsbD_or

theorem laneIn_bit (m n : LaneNo) : laneIn (1#4 <<< m.val) n = decide (n = m) := by
  revert m n; decide

/-- Lanes that join a set one after the other. -/
theorem laneIn_foldl_or (ns : List LaneNo) (a : LaneSet) (n : LaneNo) :
    laneIn (ns.foldl (fun b m => b ||| (1#4 <<< m.val)) a) n = true ↔ laneIn a n = true ∨ n ∈ ns := by
  induction ns generalizing a with
  | nil => simp
  | cons m ns ih => simp [ih, laneIn_or, laneIn_bit, or_assoc]

theorem laneIn_laneSetOfList (ns : List LaneNo) (n : LaneNo) : laneIn (laneSetOfList ns) n = true ↔ n ∈ ns := by
  have hzero : laneIn 0 n = false := BitVec.getLsbD_zero
  rw [laneSetOfList, laneIn_foldl_or, hzero]
  simp

/-! ### Reports in flight -/

theorem sent_append (rs rs' : List Report) : sent (rs ++ rs') = sent rs ++ sent rs' := List.map_append

/-- Reports sent one after the other are carried in their order. -/
theorem flatMap_carried_sent (rs : List Report) : (sent rs).flatMap SetOff.carried = rs := by
  rw [sent, List.flatMap_map]
  exact List.flatMap_singleton' rs

/-- The reports that have been sent go to the outbound queue together (R173). -/
theorem joinReports_of_sent {rs : List Report} (h : t.setOff = s.setOff ++ sent rs) :
    s.joinReports t = { t with setOff := s.setOff ++ if rs = [] then [] else [.reports rs] } := by
  rw [State.joinReports, h, List.drop_left, flatMap_carried_sent]
  cases rs <;> simp

/-- The reports of an entry to SAFE are read off the lane and the time. -/
theorem safeReports_congr (hlane : t.lane n = s.lane n) (hnow : t.now = s.now) (c : SafeCause) : safeReports t n c = safeReports s n c := by
  have helapsed : t.elapsed n = s.elapsed n := by simp only [State.elapsed, hlane, hnow]
  rw [safeReports_eq, safeReports_eq, hlane, helapsed]

/-! ### Several lanes that enter SAFE -/

/-- A cause of safe hold reaches the lanes of a list, one after the other. -/
def State.holdAll (s : State) (ns : List LaneNo) (c : SafeCause) : State := ns.foldl (fun t n => t.enterSafe n c) s

theorem holdAll_cons (s : State) (n : LaneNo) (ns : List LaneNo) (c : SafeCause) :
    s.holdAll (n :: ns) c = (s.enterSafe n c).holdAll ns c := rfl

theorem untouched_holdAll (ns : List LaneNo) (c : SafeCause) (s : State) : Untouched s (s.holdAll ns c) := by
  induction ns generalizing s with
  | nil => exact Untouched.refl s
  | cons n ns ih => exact (laneAct_enterSafe s n c).untouched.trans (ih _)

/-- The lanes of the list, neither OFF nor in SAFE, are in SAFE, and their reports are sent in the order of the list (R131). -/
theorem inSafe_holdAll (hd : ns.Nodup) (h : ∀ n ∈ ns, (s.lane n).state ≠ .off ∧ (s.lane n).state ≠ .safe) :
    InSafe ns s (s.holdAll ns c) ∧ (s.holdAll ns c).setOff = s.setOff ++ sent (ns.flatMap (safeReports s · c)) := by
  induction ns generalizing s with
  | nil => exact ⟨inSafe_nil s s.setOff, (List.append_nil _).symm⟩
  | cons n ns ih =>
    obtain ⟨hn, hd⟩ := List.nodup_cons.1 hd
    obtain ⟨⟨ho, hs⟩, hothers⟩ := List.forall_mem_cons.1 h
    obtain ⟨-, hin, hset⟩ := enterSafe_entersSafe c ho hs
    have hact := laneAct_enterSafe s n c
    have hlane : ∀ m ∈ ns, (s.enterSafe n c).lane m = s.lane m := fun m hm => hact.lane m fun e => hn (e ▸ hm)
    obtain ⟨htail, htailSet⟩ := ih (s := s.enterSafe n c) hd fun m hm => by rw [hlane m hm]; exact hothers m hm
    have hreports : ns.flatMap (safeReports (s.enterSafe n c) · c) = ns.flatMap (safeReports s · c) :=
      List.flatMap_congr fun m hm => safeReports_congr (hlane m hm) hact.untouched.now c
    refine ⟨InSafe.cons hn hin htail, ?_⟩
    rw [holdAll_cons, htailSet, hset, hreports, List.flatMap_cons, sent_append, List.append_assoc]

/-! ### ABORT -/

/-- The lanes that an ABORT takes, as the statement lists them. -/
theorem abortTargets_eq (s : State) (lanes : LaneSet) : s.abortTargets lanes =
    (List.finRange 4).filter fun n => laneIn lanes n && (s.lane n).state != .off && (s.lane n).state != .safe := by
  rw [State.abortTargets, lanesOf, List.filter_filter]
  refine List.filter_congr fun n _ => ?_
  ac_rfl

theorem nodup_abortTargets (s : State) (lanes : LaneSet) : (s.abortTargets lanes).Nodup := (nodup_lanesOf lanes).filter _

theorem state_of_mem_abortTargets (h : n ∈ s.abortTargets lanes) : (s.lane n).state ≠ .off ∧ (s.lane n).state ≠ .safe := by
  obtain ⟨-, h⟩ := List.mem_filter.1 h
  simpa using h

/-- What an ABORT leaves: its lanes in SAFE one after the other, their reports together (R139, R173). -/
def State.aborted (s : State) (lanes : LaneSet) : State := s.joinReports (s.holdAll (s.abortTargets lanes) .abort)

theorem abortEffect_empty (s : State) : abortEffect 0 s = (s, ⟨.badValue, .aborted 0 s.laneStates, none⟩) := rfl

theorem abortEffect_of_lanes (h : lanes ≠ 0) : abortEffect lanes s =
    (s.aborted lanes, ⟨.ok, .aborted (laneSetOfList (s.abortTargets lanes)) (s.aborted lanes).laneStates, none⟩) := if_neg h

theorem aborted_eq (s : State) (lanes : LaneSet) : s.aborted lanes =
    let reports := (s.abortTargets lanes).flatMap (safeReports s · .abort)
    { s.holdAll (s.abortTargets lanes) .abort with setOff := s.setOff ++ if reports = [] then [] else [.reports reports] } := by
  obtain ⟨-, hset⟩ := inSafe_holdAll (c := .abort) (nodup_abortTargets s lanes) fun _ => state_of_mem_abortTargets
  exact joinReports_of_sent hset

theorem untouched_aborted (s : State) (lanes : LaneSet) : Untouched s (s.aborted lanes) := by
  rw [aborted_eq]
  exact (untouched_holdAll (s.abortTargets lanes) .abort s).trans (untouched_setOff _ _)

theorem inSafe_aborted (s : State) (lanes : LaneSet) : InSafe (s.abortTargets lanes) s (s.aborted lanes) := by
  obtain ⟨hin, -⟩ := inSafe_holdAll (c := .abort) (nodup_abortTargets s lanes) fun _ => state_of_mem_abortTargets
  rw [aborted_eq]
  exact hin

end Sys2Proof.Machine

namespace Sys2Proof.Proofs

open Sys2Proof.Machine Sys2Proof.Spec

/-- Settles O38: an edge that the filter has seen, in either direction, and none. -/
theorem killInputGoesToItsLanes : Obligations.KillInputGoesToItsLanes := by
  intro s
  refine ⟨fun hp ha ht => ⟨fun hv => ?_, fun hv => ?_⟩, fun h =>
    ⟨exec_killAssertion_of_still (killStill_of_early h), exec_killRelease_of_still (killStill_of_early h)⟩⟩
  · rw [exec_killAssertion_of_seen (not_killStill hp ha ht (by simp [hv])), ha]
  · rw [exec_killRelease_of_seen (not_killStill hp ha ht (by simp [hv])), ha]

/-- Settles O39: the timer runs, and its remaining time is over. -/
theorem keepaliveExpiryGoesToItsLanes : Obligations.KeepaliveExpiryGoesToItsLanes := fun _ hwindow hlatch =>
  exec_keepaliveExpiry_of_due ((running_iff _).2 ⟨hwindow, hlatch⟩)

/-- Settles O40: the lanes taken enter SAFE one after the other, and their reports then go out together. -/
theorem abortTakesItsLanesToSafe : Obligations.AbortTakesItsLanesToSafe := by
  refine fun s x lanes hx => ⟨fun hempty => ?_, fun hne => ?_⟩
  · subst hempty
    exact command_answers hx (abortEffect_empty s)
  · rw [← abortTargets_eq]
    refine ⟨s.aborted lanes, laneSetOfList (s.abortTargets lanes), command_answers hx (abortEffect_of_lanes hne),
      laneIn_laneSetOfList _, (untouched_aborted s lanes).shape, inSafe_aborted s lanes, ?_⟩
    rw [aborted_eq]

end Sys2Proof.Proofs

/-! PROOFS. The link within its capacities and ranges (R149 to R153, R158): what each act of the receiver, of the transmitter and of the Command
Processor keeps of them, and the rows that leave them as they are. -/

namespace Sys2Proof.Machine

open Sys2Proof.Safety Sys2Proof.Spec

variable {s t u : State}

/-! ### What is to be kept -/

/-- The six counters of the receiver, each within 16 bits (R150). -/
structure LinkCounters.InRange (c : LinkCounters) : Prop where
  framing : c.framing ≤ 65535
  parity : c.parity ≤ 65535
  crc : c.crc ≤ 65535
  length : c.length ≤ 65535
  gap : c.gap ≤ 65535
  dropped : c.dropped ≤ 65535

/-- `LinkSound`, its parts named. -/
structure LinkFits (s : State) : Prop where
  inbound : s.rx.inbound.length ≤ 4
  held : s.held ≤ 8
  sending : s.tx.sending.isSome = true ↔ s.tx.queue ≠ []
  loss : s.tx.loss ≤ 255
  counters : s.rx.counters.InRange
  window : s.keepalive.window ≤ 6000
  remaining : s.keepalive.remaining ≤ s.keepalive.window * 100000

theorem linkSound_iff (s : State) : LinkSound s ↔ LinkFits s :=
  ⟨fun ⟨hi, hh, hs, hl, ⟨h1, h2, h3, h4, h5, h6⟩, hw, hr⟩ => ⟨hi, hh, hs, hl, ⟨h1, h2, h3, h4, h5, h6⟩, hw, hr⟩,
    fun ⟨hi, hh, hs, hl, ⟨h1, h2, h3, h4, h5, h6⟩, hw, hr⟩ => ⟨hi, hh, hs, hl, ⟨h1, h2, h3, h4, h5, h6⟩, hw, hr⟩⟩

/-- What `LinkSound` reads of the state, and the Command Processor. -/
structure LinkView where
  inbound : List Frame
  counters : LinkCounters
  tx : Transmitter
  window : Nat
  remaining : Nat
  proc : Proc

def State.linkView (s : State) : LinkView :=
  ⟨s.rx.inbound, s.rx.counters, s.tx, s.keepalive.window, s.keepalive.remaining, s.proc⟩

/-- Nothing that `LinkSound` reads differs, nor the Command Processor. -/
abbrev SameLink (s t : State) : Prop := t.linkView = s.linkView

theorem SameLink.trans (a : SameLink s t) (b : SameLink t u) : SameLink s u := Eq.trans b a

theorem SameLink.tx (a : SameLink s t) : t.tx = s.tx := congrArg LinkView.tx a

theorem SameLink.proc (a : SameLink s t) : t.proc = s.proc := congrArg LinkView.proc a

/-- The acts of lanes are beside the link. -/
theorem Untouched.sameLink (h : Untouched s t) : SameLink s t := by
  rw [SameLink, State.linkView, h.rx, h.tx, h.keepalive, h.proc]
  rfl

theorem LinkFits.same (h : LinkFits s) (a : SameLink s t) : LinkFits t := by
  have hinbound : t.rx.inbound = s.rx.inbound := congrArg LinkView.inbound a
  have hcounters : t.rx.counters = s.rx.counters := congrArg LinkView.counters a
  have hwindow : t.keepalive.window = s.keepalive.window := congrArg LinkView.window a
  have hremaining : t.keepalive.remaining = s.keepalive.remaining := congrArg LinkView.remaining a
  exact
    { inbound := hinbound ▸ h.inbound
      held := (held_congr (by rw [a.tx]) a.proc).trans_le h.held
      sending := a.tx ▸ h.sending
      loss := a.tx ▸ h.loss
      counters := hcounters ▸ h.counters
      window := hwindow ▸ h.window
      remaining := by rw [hwindow, hremaining]; exact h.remaining }

theorem sameLink_draw (s : State) : SameLink s s.draw.2 := by
  unfold State.draw
  split <;> rfl

/-! ### The counters (R150) -/

namespace LinkCounters

variable {c : LinkCounters}

theorem inRange_zero : InRange zero := ⟨Nat.zero_le _, Nat.zero_le _, Nat.zero_le _, Nat.zero_le _, Nat.zero_le _, Nat.zero_le _⟩

theorem InRange.addFraming (h : c.InRange) : c.addFraming.InRange := { h with framing := saturate_le _ _ }

theorem InRange.addParity (h : c.InRange) : c.addParity.InRange := { h with parity := saturate_le _ _ }

theorem InRange.addCrc (h : c.InRange) : c.addCrc.InRange := { h with crc := saturate_le _ _ }

theorem InRange.addLength (h : c.InRange) : c.addLength.InRange := { h with length := saturate_le _ _ }

theorem InRange.addGap (h : c.InRange) : c.addGap.InRange := { h with gap := saturate_le _ _ }

theorem InRange.addDropped (h : c.InRange) : c.addDropped.InRange := { h with dropped := saturate_le _ _ }

end LinkCounters

namespace LinkFits

theorem count {f : LinkCounters → LinkCounters} (hf : s.rx.counters.InRange → (f s.rx.counters).InRange) (h : LinkFits s) :
    LinkFits (s.count f) := { h with counters := hf h.counters }

theorem abandon {f : LinkCounters → LinkCounters} (hf : s.rx.counters.InRange → (f s.rx.counters).InRange) (h : LinkFits s) :
    LinkFits (s.abandon f) := { h with counters := hf h.counters }

/-! ### The outbound queue (R151, R152, R158) -/

theorem post (m : Message) (hroom : s.held < 8) (h : LinkFits s) : LinkFits (s.post m) :=
  { h with
    held := (held_post s m).trans_le hroom
    sending := by simp }

theorem offer (r : Report) (h : LinkFits s) : LinkFits (s.offer r) := by
  rcases Nat.lt_or_ge s.held 6 with hroom | hfull
  · have hzero : LinkFits { s with tx := { s.tx with loss := 0 } } := { h with loss := Nat.zero_le _ }
    rw [offer_of_room hroom]
    exact hzero.post _ (Nat.lt_of_lt_of_le hroom (by decide))
  · rw [offer_of_full hfull]
    exact { h with loss := saturate_le _ _ }

theorem offers (rs : List Report) (h : LinkFits s) : LinkFits (rs.foldl State.offer s) := by
  induction rs generalizing s with
  | nil => exact h
  | cons r rs ih => exact ih (h.offer r)

theorem offerAll (h : LinkFits s) : LinkFits s.offerAll :=
  offers _ (h.same rfl)

/-- The head leaves, and the next message, if there is one, is in transmission (R151). -/
theorem sendNext (h : LinkFits s) : LinkFits s.sendNext := by
  unfold State.sendNext
  split
  · next m rest hq =>
    have hheld : s.held ≤ 8 := h.held
    rw [State.held, hq, List.length_cons] at hheld
    refine { h with held := ?_, sending := ?_ }
    · rw [State.held]
      dsimp only
      omega
    · cases rest <;> simp
  · exact h

/-- What REINIT leaves: as a message is in transmission exactly while the queue is not empty, it keeps the head of any queue (R156). -/
theorem reinit (h : LinkFits s) : LinkFits s.reinit := by
  have hqueue : s.tx.reinit = { s.tx with
      queue := s.tx.queue.take 1 ++ (s.tx.queue.drop 1).filter Message.isReply, loss := 0 } := by
    rw [transmitter_reinit]
    by_cases hsend : s.tx.sending = none
    · have hempty : s.tx.queue = [] := not_not.1 fun hne => by simpa [hsend] using h.sending.2 hne
      simp [hsend, hempty]
    · simp [hsend]
  have hlength : (s.tx.queue.take 1 ++ (s.tx.queue.drop 1).filter Message.isReply).length ≤ s.tx.queue.length := by
    have hfilter := List.length_filter_le Message.isReply (s.tx.queue.drop 1)
    rw [List.length_drop] at hfilter
    rw [List.length_append, List.length_take]
    omega
  have htx : s.reinit.tx = s.tx.reinit := rfl
  refine { h with held := ?_, sending := ?_, loss := ?_, counters := LinkCounters.inRange_zero }
  · have hheld := h.held
    rw [State.held] at hheld ⊢
    rw [htx, hqueue]
    exact (Nat.add_le_add_right hlength _).trans hheld
  · rw [htx, hqueue]
    refine h.sending.trans (not_congr ?_)
    cases s.tx.queue <;> simp
  · rw [htx, hqueue]
    exact Nat.zero_le _

/-! ### The receiver (R146 to R149) -/

theorem handOn (f : Frame) (h : LinkFits s) : LinkFits (s.handOn f) := by
  rcases Nat.lt_or_ge s.rx.inbound.length 4 with hroom | hfull
  · rw [handOn_of_room hroom]
    exact { h with inbound := by simpa using hroom }
  · rcases Nat.lt_or_ge s.held 8 with hout | hnone
    · rw [handOn_of_full hfull hout]
      exact h.post _ hout
    · rw [handOn_of_dropped hfull hnone]
      exact h.count LinkCounters.InRange.addDropped

/-- The keepalive restarts at its window (R153). -/
theorem acceptFrame (f : Frame) (h : LinkFits s) : LinkFits (s.acceptFrame f) := by
  have hrestart : LinkFits { s with keepalive := s.keepalive.restart } := { h with remaining := le_rfl }
  exact (hrestart.handOn f).same rfl

theorem receiveByte (b : Byte) (h : LinkFits s) : LinkFits (s.receiveByte b) := by
  have hassemble : ∀ buffer, LinkFits (s.assemble buffer) := by
    intro buffer
    unfold State.assemble
    split
    · exact h
    · split
      · exact h.abandon LinkCounters.InRange.addLength
      · split
        · exact h.same rfl
        · split
          · exact h.acceptFrame _
          · exact h.abandon LinkCounters.InRange.addCrc
  unfold State.receiveByte
  split
  · split
    · exact h.same rfl
    · exact h
  · exact hassemble _

theorem characterReceived {c : Character} (h : LinkFits s) (hs : execCharacterReceived c s = .next t) : LinkFits t := by
  have hend : ∀ quiet, LinkFits (s.endCharacter quiet) := fun quiet => h.same rfl
  unfold execCharacterReceived at hs
  split at hs
  · cases hs; exact h
  · by_cases hstart : s.hearsStart (if c.startBit then 0 else 1) = false
    · rw [if_pos hstart] at hs
      cases hs
      exact h.same rfl
    · rw [if_neg hstart] at hs
      split at hs
      · cases hs; exact hend none
      · split at hs
        · cases hs; exact (hend (some s.now)).abandon LinkCounters.InRange.addFraming
        · cases hs; exact (hend none).abandon LinkCounters.InRange.addParity
        · cases hs; exact (hend none).receiveByte c.data

theorem gapExpiry (h : LinkFits s) (hs : execGapExpiry s = .next t) : LinkFits t := by
  unfold execGapExpiry at hs
  split at hs
  · cases hs; exact h.abandon LinkCounters.InRange.addGap
  · cases hs; exact h

theorem validFrame {f : Frame} (h : LinkFits s) (hs : execValidFrame f s = .next t) : LinkFits t := by
  unfold execValidFrame at hs
  split at hs
  · cases hs; exact h
  · have hend : LinkFits (s.endCharacter none) := h.same rfl
    cases hs
    exact hend.acceptFrame f

theorem transmissionEnd (h : LinkFits s) (hs : execTransmissionEnd s = .next t) : LinkFits t := by
  unfold execTransmissionEnd at hs
  split at hs
  · cases hs; exact h.sendNext
  · cases hs; exact h

theorem startUpEvent (h : LinkFits s) (hs : execStartUpEvent s = .next t) : LinkFits t := by
  unfold execStartUpEvent at hs
  split at hs
  · cases hs
    have hdone := h.offer (.notice .resetDone)
    split
    · exact (hdone.offer (.notice .killAsserted)).same rfl
    · exact hdone.same rfl
  · cases hs; exact h

/-! ### The Command Processor (R157 to R161) -/

/-- The take of a frame reserves an outbound entry, for which there is room (R158). -/
theorem frameTake (h : LinkFits s) (hs : execFrameTake s = .next t) : LinkFits t := by
  unfold execFrameTake at hs
  split at hs
  · next hdue =>
    obtain ⟨-, -, hroom, -⟩ := (takeDue_iff s).1 hdue
    split at hs
    · next f rest hin =>
      cases hs
      have hsame := (sameLink_draw s).trans (sameLink_draw s.draw.2)
      have hinbound := h.inbound
      rw [hin, List.length_cons] at hinbound
      refine { h.same hsame with inbound := Nat.le_of_succ_le hinbound, held := ?_, counters := h.counters }
      rw [State.held]
      dsimp only
      rw [hsame.tx]
      exact hroom
    · cases hs; exact h
  · cases hs; exact h

/-- The reply takes the entry that was reserved for it (R158, R161). -/
theorem commandCompletion (h : LinkFits s) (hs : execCommandCompletion s = .next t) : LinkFits t := by
  unfold execCommandCompletion at hs
  split at hs
  · next x hx =>
    split at hs
    · have hproc : s.offerAll.proc = .executing x := by rw [offerAll_eq]; exact hx
      have hheld := h.offerAll.held
      simp only [State.held, hproc] at hheld
      have hidle : LinkFits { s.offerAll with proc := .idle } := { h.offerAll with held := Nat.le_of_succ_le hheld }
      cases hs
      exact hidle.post _ hheld
    · cases hs; exact h
  · cases hs; exact h

/-- The event of a command keeps what its effect keeps, when the effect leaves the execution to the Command Processor. -/
theorem command {c : Instr} {effect : State → State × Answer} (h : LinkFits s) (he : LinkFits (effect s).1)
    (hproc : (effect s).1.proc = s.proc) (hs : s.command c effect = .next t) : LinkFits t := by
  unfold State.command at hs
  split at hs
  · next x hx =>
    split at hs
    · have hheld := he.held
      simp only [State.held, hproc, hx] at hheld
      cases hs
      exact { he with held := hheld }
    · cases hs; exact h
  · cases hs; exact h

/-- A command whose effect is beside the link. -/
theorem commandBeside {c : Instr} {effect : State → State × Answer} (h : LinkFits s) (he : SameLink s (effect s).1)
    (hs : s.command c effect = .next t) : LinkFits t := h.command (h.same he) he.proc hs

theorem getStatus (scope arg : Byte) (h : LinkFits s) : LinkFits (getStatusEffect scope arg s).1 := by
  unfold getStatusEffect
  split
  · unfold State.clearedBy
    split
    · exact h.count (f := fun _ => LinkCounters.zero) fun _ => LinkCounters.inRange_zero
    · exact h
  · exact h

/-- A window that SET_LINK sets has passed its check, and the remaining time is all of it (R153, R154). -/
theorem setLink (rate parity : Byte) (window : Half) (h : LinkFits s) : LinkFits (setLinkEffect rate parity window s).1 := by
  unfold setLinkEffect
  split
  · split
    · next hw => exact { h with window := hw, remaining := le_rfl }
    · exact h
  · exact h

end LinkFits

/-! ### The commands beside the link -/

/-- A check that refuses, before what comes next. -/
theorem SameLink.check {p : Prop} [Decidable p] {r : State × Answer} {a : Answer} (h : SameLink s r.1) :
    SameLink s (if p then (s, a) else r).1 := by
  split
  · rfl
  · exact h

theorem sameLink_configLine (line polarity safeLevel : Byte) (s : State) : SameLink s (configLineEffect line polarity safeLevel s).1 := by
  unfold configLineEffect
  split
  · exact .check rfl
  · rfl

theorem sameLink_setPair (a b : Byte) (s : State) : SameLink s (setPairEffect a b s).1 := by
  unfold setPairEffect
  split
  · exact .check (.check (.check (.check rfl)))
  · rfl

theorem sameLink_clearPair (a : Byte) (s : State) : SameLink s (clearPairEffect a s).1 := by
  unfold clearPairEffect
  split
  · split
    · exact .check rfl
    · rfl
  · rfl

theorem sameLink_openSeq (id length : Byte) (s : State) : SameLink s (openSeqEffect id length s).1 := by
  unfold openSeqEffect
  split
  · rfl
  · exact .check (.check (.check rfl))

theorem sameLink_appendSeq (id offset : Byte) (raw : List RawStep) (s : State) : SameLink s (appendSeqEffect id offset raw s).1 := by
  unfold appendSeqEffect
  split
  · rfl
  · dsimp only
    split
    · rfl
    · rfl
    · refine .check (.check ?_)
      split <;> rfl

theorem sameLink_deleteSeq (id : Byte) (s : State) : SameLink s (deleteSeqEffect id s).1 := by
  unfold deleteSeqEffect
  split
  · rfl
  · exact .check (.check rfl)

theorem sameLink_pulseSync (s : State) : SameLink s (pulseSyncEffect s).1 := by
  unfold pulseSyncEffect
  split <;> rfl

theorem sameLink_clearFault (n : LaneNo) (s : State) : SameLink s (clearFaultEffect n s).1 := by
  unfold clearFaultEffect
  exact .check (.check (by rw [clearSafe_eq]; rfl))

/-- A cause of safe hold that comes first is taken by its lane (R13, R36). -/
theorem sameLink_takeFirst_holds (s : State) (n : LaneNo) : SameLink s (s.takeFirst (SetOff.holds n)) := by
  rcases takeFirst_cases s (SetOff.holds n) with h | ⟨e, -, hp, h⟩
  · exact congrArg State.linkView h
  · obtain ⟨c, rfl⟩ := holds_iff.1 hp
    rw [h]
    exact ((untouched_setOff s _).trans (laneAct_enterSafe _ n c).untouched).sameLink

theorem sameLink_configLane (n : LaneNo) (raw : RawConfig) (s : State) : SameLink s (configLaneEffect n raw s).1 := by
  refine (sameLink_takeFirst_holds s n).trans ?_
  unfold configLaneEffect configureEffect
  split
  · rfl
  · rw [configure_eq]; rfl

/-- The lanes of a list act one after the other. -/
theorem untouched_eachLane {act : State → LaneNo → State} (hact : ∀ v n, LaneAct n v (act v n)) (ns : List LaneNo) (s : State) :
    Untouched s (ns.foldl act s) := by
  induction ns generalizing s with
  | nil => exact Untouched.refl s
  | cons n ns ih => exact (hact s n).untouched.trans (ih _)

theorem sameLink_start (lanes : LaneSet) (mode : Byte) (s : State) : SameLink s (startEffect lanes mode s).1 := by
  rw [startEffect_eq]
  refine (untouched_blocksTaken (lanesOf lanes) s).sameLink.trans ?_
  unfold startLanesEffect
  split
  · rfl
  · rfl
  · next m _ _ _ _ =>
    split
    · rfl
    · cases m with
      | now => exact (untouched_eachLane laneAct_beginHead _ _).sameLink
      | onSync => exact (untouched_eachLane (fun v n => laneAct_setLaneState v n .armed) _ _).sameLink

theorem sameLink_abort (lanes : LaneSet) (s : State) : SameLink s (abortEffect lanes s).1 := by
  by_cases hempty : lanes = 0
  · subst hempty
    rfl
  · rw [abortEffect_of_lanes hempty]
    exact (untouched_aborted s lanes).sameLink

/-! ### The inputs and the timers -/

theorem sameLink_resetRelease {straps : BitVec 2} (h : execResetRelease straps s = .next t) : SameLink s t := by
  unfold execResetRelease at h
  split at h <;> · cases h; rfl

theorem sameLink_startBitRecognized (h : execStartBitRecognized s = .next t) : SameLink s t := by
  unfold execStartBitRecognized at h
  split at h
  · cases h; rfl
  · split at h <;> · cases h; rfl

theorem sameLink_triggerEdge {i : TrigNo} {e : Edge} (h : execTriggerEdge i e s = .next t) : SameLink s t := by
  unfold execTriggerEdge at h
  split at h <;> · cases h; rfl

theorem sameLink_syncEdge (h : execSyncEdge s = .next t) : SameLink s t := by
  unfold execSyncEdge at h
  split at h <;> · cases h; rfl

theorem sameLink_syncLowToHigh (h : execSyncLowToHigh s = .next t) : SameLink s t := by
  unfold execSyncLowToHigh at h
  split at h <;> · cases h; rfl

theorem sameLink_syncPulseExpiry (h : execSyncPulseExpiry s = .next t) : SameLink s t := by
  unfold execSyncPulseExpiry at h
  split at h <;> · cases h; rfl

theorem sameLink_adopt (s : State) (input : FilteredInput) (level : Level) : SameLink s (s.adopt input level) := by
  cases input with
  | trigger i => simp only [State.adopt]; split <;> rfl
  | syncN => simp only [State.adopt]; split <;> rfl
  | killN =>
    simp only [State.adopt]
    split
    · rfl
    · split <;> rfl

theorem sameLink_filterLevelAdopted {input : FilteredInput} {level : Level} (h : execFilterLevelAdopted input level s = .next t) :
    SameLink s t := by
  unfold execFilterLevelAdopted at h
  split at h
  · cases h; rfl
  · cases h; exact sameLink_adopt s input level

theorem sameLink_killAssertion (h : execKillAssertion s = .next t) : SameLink s t := by
  unfold execKillAssertion at h
  split at h
  · cases h; rfl
  · cases h
    dsimp only
    split <;> rfl

theorem sameLink_killRelease (h : execKillRelease s = .next t) : SameLink s t := by
  unfold execKillRelease at h
  split at h
  · cases h; rfl
  · cases h
    dsimp only
    split <;> rfl

/-- The latch is set, and the window and its remaining time stay (R138). -/
theorem sameLink_keepaliveExpiry (h : execKeepaliveExpiry s = .next t) : SameLink s t := by
  unfold execKeepaliveExpiry at h
  split at h <;> · cases h; rfl

theorem sameLink_guardExpiry {l : LineNo} (h : execGuardExpiry l s = .next t) : SameLink s t := by
  unfold execGuardExpiry at h
  split at h
  · split at h <;> · cases h; rfl
  · cases h; rfl

theorem sameLink_stepEndTimer {n : LaneNo} (h : execStepEndTimer n s = .next t) : SameLink s t := by
  unfold execStepEndTimer at h
  split at h
  · cases h; exact (laneTurn_endByTimer s n _).untouched.sameLink
  · cases h; rfl

theorem sameLink_blankingEnd {n : LaneNo} (h : execBlankingEnd n s = .next t) : SameLink s t := by
  unfold execBlankingEnd at h
  split at h <;> · cases h; rfl

theorem sameLink_stepTimeout {n : LaneNo} (h : execStepTimeout n s = .next t) : SameLink s t := by
  unfold execStepTimeout at h
  split at h
  · cases h; exact (laneTurn_endByTimer s n _).untouched.sameLink
  · cases h; rfl

/-! ### Every row, and every step -/

namespace LinkFits

/-- Every block is as after a reset, but for the time and the queue of events (R166). -/
theorem pinReset (hs : execPinReset s = .next t) : LinkFits t := by
  cases hs
  exact ((linkSound_iff State.reset).1 linkSound_reset).same rfl

theorem exec {i : Instr} (h : LinkFits s) (hs : Machine.exec i s = .next t) : LinkFits t := by
  cases i with
  | identify => exact h.commandBeside (effect := identifyEffect) rfl hs
  | ping => exact h.commandBeside (effect := pingEffect) rfl hs
  | getStatus scope arg =>
    obtain ⟨-, hproc⟩ := beside_getStatus scope arg s
    exact h.command (h.getStatus scope arg) hproc hs
  | setLink rate parity window =>
    obtain ⟨-, hproc⟩ := beside_setLink rate parity window s
    exact h.command (h.setLink rate parity window) hproc hs
  | reinit =>
    have hproc : s.offerAll.proc = s.proc := by rw [offerAll_eq]
    exact h.command (effect := reinitEffect) h.offerAll.reinit hproc hs
  | configLine line polarity safeLevel => exact h.commandBeside (sameLink_configLine line polarity safeLevel s) hs
  | setPair a b => exact h.commandBeside (sameLink_setPair a b s) hs
  | clearPair a => exact h.commandBeside (sameLink_clearPair a s) hs
  | configLane n raw => exact h.commandBeside (sameLink_configLane n raw s) hs
  | enqueue n entries => exact h.commandBeside (laneTurn_enqueue n entries s).untouched.sameLink hs
  | start lanes mode => exact h.commandBeside (sameLink_start lanes mode s) hs
  | openSeq id length => exact h.commandBeside (sameLink_openSeq id length s) hs
  | appendSeq id offset steps => exact h.commandBeside (sameLink_appendSeq id offset steps s) hs
  | deleteSeq id => exact h.commandBeside (sameLink_deleteSeq id s) hs
  | pulseSync => exact h.commandBeside (sameLink_pulseSync s) hs
  | pause n => exact h.commandBeside (laneTurn_pause n s).untouched.sameLink hs
  | resume n => exact h.commandBeside (laneTurn_resume n s).untouched.sameLink hs
  | stop n mode => exact h.commandBeside (laneTurn_stop n mode s).untouched.sameLink hs
  | breakPass n => exact h.commandBeside (laneTurn_break n s).untouched.sameLink hs
  | amend n serial d => exact h.commandBeside (laneTurn_amend n serial d s).untouched.sameLink hs
  | flush n => exact h.commandBeside (laneTurn_flush n s).untouched.sameLink hs
  | abort lanes => exact h.commandBeside (sameLink_abort lanes s) hs
  | clearFault n => exact h.commandBeside (sameLink_clearFault n s) hs
  | pinReset => exact pinReset hs
  | resetRelease straps => exact h.same (sameLink_resetRelease hs)
  | startUpEvent => exact h.startUpEvent hs
  | characterReceived c => exact h.characterReceived hs
  | gapExpiry => exact h.gapExpiry hs
  | validFrame f => exact h.validFrame hs
  | frameTake => exact h.frameTake hs
  | commandCompletion => exact h.commandCompletion hs
  | transmissionEnd => exact h.transmissionEnd hs
  | keepaliveExpiry => exact h.same (sameLink_keepaliveExpiry hs)
  | killAssertion => exact h.same (sameLink_killAssertion hs)
  | killRelease => exact h.same (sameLink_killRelease hs)
  | triggerEdge i e => exact h.same (sameLink_triggerEdge hs)
  | syncEdge => exact h.same (sameLink_syncEdge hs)
  | syncPulseExpiry => exact h.same (sameLink_syncPulseExpiry hs)
  | stepEndTimer n => exact h.same (sameLink_stepEndTimer hs)
  | blankingEnd n => exact h.same (sameLink_blankingEnd hs)
  | stepTimeout n => exact h.same (sameLink_stepTimeout hs)
  | guardExpiry l => exact h.same (sameLink_guardExpiry hs)
  | startBitRecognized => exact h.same (sameLink_startBitRecognized hs)
  | syncLowToHigh => exact h.same (sameLink_syncLowToHigh hs)
  | filterLevelAdopted input level => exact h.same (sameLink_filterLevelAdopted hs)

/-- A base period: the keepalive time runs down, and nothing else of this (R153). -/
theorem tick (h : LinkFits s) : LinkFits s.tick := by
  obtain ⟨hinbound, hcounters⟩ : s.tick.rx.inbound = s.rx.inbound ∧ s.tick.rx.counters = s.rx.counters := by
    rw [tick_rx]
    exact ⟨rfl, rfl⟩
  obtain ⟨hwindow, hremaining⟩ : s.tick.keepalive.window = s.keepalive.window ∧ s.tick.keepalive.remaining ≤ s.keepalive.remaining := by
    rw [tick_keepalive]
    split
    · exact ⟨rfl, Nat.sub_le _ _⟩
    · exact ⟨rfl, le_rfl⟩
  exact { h with
    inbound := hinbound ▸ h.inbound
    counters := hcounters ▸ h.counters
    window := hwindow ▸ h.window
    remaining := hwindow ▸ hremaining.trans h.remaining }

/-- An event in flight is taken, and others then stand. -/
theorem take (standing : List SetOff) (e : SetOff) (h : LinkFits s) : LinkFits (State.take { s with setOff := standing } e) := by
  have hstand : LinkFits { s with setOff := standing } := h.same rfl
  rcases take_cases { s with setOff := standing } e with ⟨n, ha⟩ | ⟨r, hr⟩
  · exact hstand.same ha.untouched.sameLink
  · rw [hr]
    exact hstand.offer r

theorem step (h : LinkFits s) (hs : Machine.step s = .next t) : LinkFits t := by
  unfold Machine.step at hs
  split at hs
  · next c rest _ =>
    have hrest : LinkFits { s with pending := rest } := h.same rfl
    exact hrest.exec hs
  · have hdraw : ∀ {w : State}, w = s ∨ w = s.draw.2 → LinkFits w := by
      rintro w (rfl | rfl)
      · exact h
      · exact h.same (sameLink_draw s)
    split at hs
    · next hn => exact (hdraw (nextHappening_some hn).2).exec hs
    · next e standing w hn =>
      cases hs
      exact (hdraw (nextHappening_some hn).2).take standing e
    · cases hs; exact h.tick

end LinkFits

end Sys2Proof.Machine

namespace Sys2Proof.Proofs

open Sys2Proof.Machine Sys2Proof.Safety

/-- Settles O57: the admissions and the counters keep their bounds, and every other row is beside the link. -/
theorem stepKeepsLinkSound : Obligations.StepKeepsLinkSound := fun s t h hs =>
  (linkSound_iff t).2 (((linkSound_iff s).1 h).step hs)

end Sys2Proof.Proofs

/-! PROOFS. The receiver (R142 to R148, Table 9-3): its rows case by case, and the characters of a frame one after the other. -/

namespace Sys2Proof.Machine

open Sys2Proof.Safety Sys2Proof.Spec

variable {s : State} {c : Character} {f : Frame} {n b : Byte} {rest : List Byte}

/-! ### What the receiver hears (R143) -/

theorem quietFor_iff (s : State) (chars : Nat) : QuietFor s chars ↔ s.hearsStart chars = true := by
  rw [hearsStart_iff, QuietFor]
  simp only [charBits_eq]

theorem hearsStart_false_iff (s : State) (chars : Nat) : s.hearsStart chars = false ↔ ¬ QuietFor s chars := by
  rw [quietFor_iff, Bool.not_eq_true]

theorem quietFor_of_none (h : s.rx.quietFrom = none) (chars : Nat) : QuietFor s chars := fun t ht => by
  rw [h] at ht
  cases ht

theorem endCharacter_of_clear (hc : s.rx.char = none) (hq : s.rx.quietFrom = none) : s.endCharacter none = s := by
  rw [State.endCharacter, ← hc, ← hq]

/-- With a bit of this parity, the character is to be refused (R142, R143). -/
abbrev Parity.Disagrees (p : Parity) (c : Character) : Prop :=
  (p = .even ∧ c.parityBit ≠ oddOnes c.data) ∨ (p = .odd ∧ c.parityBit = oddOnes c.data)

theorem checkCharacter_of_low (p : Parity) (h : c.stopBit = false) : checkCharacter p c = .framing := if_pos h

/-- Behind a good stop bit the parity bit is checked, if there is one (R143). -/
theorem checkCharacter_of_high (p : Parity) (h : c.stopBit = true) :
    checkCharacter p c = if p.Disagrees c then .parity else .good := by
  refine (if_neg (by simp [h])).trans ?_
  cases p with
  | none => simp [Parity.bit]
  | even => by_cases hbit : c.parityBit = oddOnes c.data <;> simp [Parity.bit, Parity.Disagrees, hbit, eq_comm]
  | odd => by_cases hbit : c.parityBit = oddOnes c.data <;> simp [Parity.bit, Parity.Disagrees, hbit, eq_comm]

/-! ### The row CHARACTER_RECEIVED -/

/-- A character that the receiver cannot have heard begin shows only that RXD has been low (R143). -/
theorem exec_character_unheard (hp : s.phase ≠ .held) (hq : ¬ QuietFor s (if c.startBit then 0 else 1)) :
    exec (.characterReceived c) s = .next (s.waitOn (s.quietAfter c)) := by
  change execCharacterReceived c s = _
  rw [execCharacterReceived, if_neg (mt (isHeld_iff s).1 hp), if_pos ((hearsStart_false_iff s _).2 hq)]

/-- A start bit that is high again at its middle forms no character (R143). -/
theorem exec_character_glitch (hp : s.phase ≠ .held) (hq : QuietFor s 0) (hc : c.startBit = true) :
    exec (.characterReceived c) s = .next (s.endCharacter none) := by
  have hheard : QuietFor s (if c.startBit then 0 else 1) := by simpa [hc] using hq
  change execCharacterReceived c s = _
  rw [execCharacterReceived, if_neg (mt (isHeld_iff s).1 hp), if_neg (mt (hearsStart_false_iff s _).1 (not_not.2 hheard)), if_pos hc]

/-- What becomes of a whole character by its checks (R143, R146, R147). -/
def State.afterCheck (s : State) (b : Byte) : CharCheck → State
  | .framing => (s.endCharacter (some s.now)).abandon LinkCounters.addFraming
  | .parity => (s.endCharacter none).abandon LinkCounters.addParity
  | .good => (s.endCharacter none).receiveByte b

theorem exec_character_checked (hp : s.phase ≠ .held) (hq : QuietFor s 1) (hc : c.startBit = false) :
    exec (.characterReceived c) s = .next (s.afterCheck c.data (checkCharacter (s.rx.char.getD s.settings).parity c)) := by
  have hheard : QuietFor s (if c.startBit then 0 else 1) := by simpa [hc] using hq
  change execCharacterReceived c s = _
  rw [execCharacterReceived, if_neg (mt (isHeld_iff s).1 hp), if_neg (mt (hearsStart_false_iff s _).1 (not_not.2 hheard)),
    if_neg (by simp [hc])]
  generalize checkCharacter (s.rx.char.getD s.settings).parity c = check
  cases check <;> rfl

theorem exec_character_framing (hp : s.phase ≠ .held) (hq : QuietFor s 1) (hc : c.startBit = false) (hstop : c.stopBit = false) :
    exec (.characterReceived c) s = .next ((s.endCharacter (some s.now)).abandon LinkCounters.addFraming) := by
  rw [exec_character_checked hp hq hc, checkCharacter_of_low _ hstop, State.afterCheck]

theorem exec_character_parity (hp : s.phase ≠ .held) (hq : QuietFor s 1) (hc : c.startBit = false) (hstop : c.stopBit = true)
    (hbit : (s.rx.char.getD s.settings).parity.Disagrees c) :
    exec (.characterReceived c) s = .next ((s.endCharacter none).abandon LinkCounters.addParity) := by
  rw [exec_character_checked hp hq hc, checkCharacter_of_high _ hstop, if_pos hbit, State.afterCheck]

theorem exec_character_good (hp : s.phase ≠ .held) (hq : QuietFor s 1) (hc : c.startBit = false) (hstop : c.stopBit = true)
    (hbit : ¬ (s.rx.char.getD s.settings).parity.Disagrees c) :
    exec (.characterReceived c) s = .next ((s.endCharacter none).receiveByte c.data) := by
  rw [exec_character_checked hp hq hc, checkCharacter_of_high _ hstop, if_neg hbit, State.afterCheck]

/-! ### The other rows of the receiver -/

theorem exec_validFrame_of_time (hp : s.phase ≠ .held) (hw : f.wf = true) (hq : QuietFor s f.size) :
    exec (.validFrame f) s = .next ((s.endCharacter none).acceptFrame f) := by
  refine if_neg ?_
  rw [isHeld_iff, hw, hearsStart_false_iff]
  simp [hp, hq]

theorem exec_gapExpiry_of_due (h : s.gapDue = true) : exec .gapExpiry s = .next (s.abandon LinkCounters.addGap) := if_pos h

theorem exec_startBit_heard (hp : s.phase ≠ .held) (hc : s.rx.char = none) (hq : QuietFor s 0) :
    exec .startBitRecognized s = .next { s with rx := { s.rx with char := some s.settings, quietFrom := none } } := by
  change execStartBitRecognized s = _
  rw [execStartBitRecognized, if_neg (by simp [isHeld_iff, hp, hc]), if_neg (mt (hearsStart_false_iff s 0).1 (not_not.2 hq))]

theorem exec_startBit_unheard (hp : s.phase ≠ .held) (hc : s.rx.char = none) (hq : ¬ QuietFor s 0) :
    exec .startBitRecognized s = .next (s.waitOn (some s.now)) := by
  change execStartBitRecognized s = _
  rw [execStartBitRecognized, if_neg (by simp [isHeld_iff, hp, hc]), if_pos ((hearsStart_false_iff s 0).2 hq)]

/-- The bit time alone, with no character behind it (R143). -/
theorem quietFor_zero_iff {t : Nat} (h : s.rx.quietFrom = some t) :
    QuietFor s 0 ↔ 10000000 ≤ (s.now - t) * s.settings.rate.bps := by
  simp [QuietFor, h]

/-! ### A byte at the assembly buffer (R146, R147) -/

theorem assemble_badLength (h : n.toNat < 2 ∨ 242 < n.toNat) : s.assemble (n :: rest) = s.abandon LinkCounters.addLength := if_pos h

/-- A frame of a length that the link allows, not all of its bytes received (R144). -/
theorem assemble_more (h2 : 2 ≤ n.toNat) (h242 : n.toNat ≤ 242) (h : rest.length < n.toNat + 2) :
    s.assemble (n :: rest) = { s with rx := { s.rx with state := .inFrame (n :: rest) 0 } } := by
  rw [State.assemble, if_neg (by omega), if_pos h]

theorem assemble_frame (h2 : 2 ≤ n.toNat) (h242 : n.toNat ≤ 242) (h : rest.length = n.toNat + 2)
    (hf : frameOfBuffer (n :: rest) = some f) : s.assemble (n :: rest) = s.acceptFrame f := by
  rw [State.assemble, if_neg (by omega), if_neg (by omega), hf]

theorem assemble_badCrc (h2 : 2 ≤ n.toNat) (h242 : n.toNat ≤ 242) (h : rest.length = n.toNat + 2)
    (hf : frameOfBuffer (n :: rest) = none) : s.assemble (n :: rest) = s.abandon LinkCounters.addCrc := by
  rw [State.assemble, if_neg (by omega), if_neg (by omega), hf]

/-! ### The frame that a buffer holds (R144, R145) -/

theorem wf_iff (f : Frame) : f.wf = true ↔ f.payload.length ≤ 240 := decide_eq_true_iff

theorem toNat_length (hw : f.wf = true) : f.length.toNat = f.payload.length + 2 := by
  have hpayload := (wf_iff f).1 hw
  rw [Frame.length]
  exact toNat_byteOf (by omega)

/-- The buffer of a frame, all its bytes received, holds the frame. -/
theorem frameOfBuffer_frame (hw : f.wf = true) : frameOfBuffer (f.body ++ Half.bytes (crc f.body)) = some f := by
  have hsplit : f.length.toNat - 2 = f.payload.length := by rw [toNat_length hw, Nat.add_sub_cancel]
  simp [Frame.body, frameOfBuffer, hsplit]

/-- A buffer of the right length holds no other frame than the one whose bytes it is. -/
theorem buffer_of_frame (h2 : 2 ≤ n.toNat) (h242 : n.toNat ≤ 242) (h : rest.length = n.toNat + 2)
    (hf : frameOfBuffer (n :: rest) = some f) : f.wf = true ∧ n :: rest = f.body ++ Half.bytes (crc f.body) := by
  unfold frameOfBuffer at hf
  split at hf
  · next k kind tag tail hbuffer =>
    obtain ⟨rfl, rfl⟩ := List.cons.inj hbuffer
    have htake : (tail.take (n.toNat - 2)).length = n.toNat - 2 := by
      rw [List.length_take]
      simp only [List.length_cons] at h
      omega
    dsimp only at hf
    split at hf
    · next hcrc =>
      cases hf
      have hlength : Frame.length ⟨kind, tag, tail.take (n.toNat - 2)⟩ = n := by
        rw [Frame.length, htake, Nat.sub_add_cancel h2]
        exact (BitVec.ofNat_toNat 8 n).trans (BitVec.setWidth_eq n)
      have hbody : Frame.body ⟨kind, tag, tail.take (n.toNat - 2)⟩ = n :: kind :: tag :: tail.take (n.toNat - 2) := by
        rw [Frame.body, hlength]
      refine ⟨(wf_iff _).2 (by dsimp only; omega), ?_⟩
      rw [hbody, ← hcrc]
      simp
    · cases hf
  · cases hf

/-! ### What a row leaves of the state -/

theorem addFraming_eq (k : LinkCounters) : k.addFraming = { k with framing := min (k.framing + 1) 65535 } := by
  rw [LinkCounters.addFraming, saturate_eq_min]; rfl

theorem addParity_eq (k : LinkCounters) : k.addParity = { k with parity := min (k.parity + 1) 65535 } := by
  rw [LinkCounters.addParity, saturate_eq_min]; rfl

theorem addCrc_eq (k : LinkCounters) : k.addCrc = { k with crc := min (k.crc + 1) 65535 } := by
  rw [LinkCounters.addCrc, saturate_eq_min]; rfl

theorem addLength_eq (k : LinkCounters) : k.addLength = { k with length := min (k.length + 1) 65535 } := by
  rw [LinkCounters.addLength, saturate_eq_min]; rfl

theorem addGap_eq (k : LinkCounters) : k.addGap = { k with gap := min (k.gap + 1) 65535 } := by
  rw [LinkCounters.addGap, saturate_eq_min]; rfl

theorem addDropped_eq (k : LinkCounters) : k.addDropped = { k with dropped := min (k.dropped + 1) 65535 } := by
  rw [LinkCounters.addDropped, saturate_eq_min]; rfl

/-- A frame that is abandoned (R147). -/
theorem abandon_eq (s : State) (g : LinkCounters → LinkCounters) :
    s.abandon g = { s with rx := { s.rx with state := .hunting, counters := g s.rx.counters } } := rfl

/-- A valid frame that is handed on: the keepalive restarts, and the receiver hunts (R148, R153). -/
theorem acceptFrame_of_handOn {t : State} (h : State.handOn { s with keepalive := s.keepalive.restart } f = t) :
    s.acceptFrame f = t.hunt := congrArg State.hunt h

theorem acceptFrame_of_room (h : s.rx.inbound.length < 4) : s.acceptFrame f =
    { s with
      keepalive := { s.keepalive with latch := false, remaining := s.keepalive.window * 100000 },
      rx := { s.rx with state := .hunting, inbound := s.rx.inbound ++ [f] } } :=
  acceptFrame_of_handOn (handOn_of_room h)

theorem acceptFrame_of_full (h : 4 ≤ s.rx.inbound.length) (ho : s.held < 8) : s.acceptFrame f =
    { s with
      keepalive := { s.keepalive with latch := false, remaining := s.keepalive.window * 100000 },
      rx := { s.rx with state := .hunting },
      tx := { s.tx with
        queue := s.tx.queue ++ [.reply f.kind f.tag ⟨.inboundFull, .none, none⟩],
        sending := some (s.tx.sending.getD ⟨s.now, s.settings⟩) } } :=
  acceptFrame_of_handOn (handOn_of_full h ho)

theorem acceptFrame_of_dropped (h : 4 ≤ s.rx.inbound.length) (ho : 8 ≤ s.held) : s.acceptFrame f =
    { s with
      keepalive := { s.keepalive with latch := false, remaining := s.keepalive.window * 100000 },
      rx := { s.rx with
        state := .hunting,
        counters := { s.rx.counters with dropped := min (s.rx.counters.dropped + 1) 65535 } } } := by
  rw [← addDropped_eq]
  exact acceptFrame_of_handOn (handOn_of_dropped h ho)

/-! ### A frame character by character -/

/-- The receiver in a frame, with these bytes and no gap since the last (R146, R147). -/
def State.assembling (s : State) (buffer : List Byte) : State := { s with rx := { s.rx with state := .inFrame buffer 0 } }

/-- The character that carries a byte (R142). -/
def Parity.character (p : Parity) (b : Byte) : Character := ⟨false, b, (p.bit b).getD true, true⟩

theorem not_disagrees_character (p : Parity) (b : Byte) : ¬ p.Disagrees (p.character b) := by
  cases p <;> simp [Parity.character, Parity.bit]

/-- A receiver that waits for nothing takes the byte of a character as it is sent. -/
theorem exec_character_of_byte (hp : s.phase ≠ .held) (hc : s.rx.char = none) (hq : s.rx.quietFrom = none) (b : Byte) :
    exec (.characterReceived (s.settings.parity.character b)) s = .next (s.receiveByte b) := by
  have hgood := exec_character_good (c := s.settings.parity.character b) hp (quietFor_of_none hq 1) rfl rfl
    (by rw [hc]; exact not_disagrees_character _ b)
  rwa [endCharacter_of_clear hc hq] at hgood

/-- What comes of a frame does not depend on how much of it has been assembled. -/
theorem acceptFrame_assembling (s : State) (buffer : List Byte) (f : Frame) : (s.assembling buffer).acceptFrame f = s.acceptFrame f := by
  rcases Nat.lt_or_ge s.rx.inbound.length 4 with hroom | hfull
  · rw [acceptFrame_of_room hroom]
    exact acceptFrame_of_room hroom
  · rcases Nat.lt_or_ge s.held 8 with hout | hnone
    · rw [acceptFrame_of_full hfull hout]
      exact acceptFrame_of_full hfull hout
    · rw [acceptFrame_of_dropped hfull hnone]
      exact acceptFrame_of_dropped hfull hnone

/-- The length byte comes, within its range (R144, R146). -/
theorem receiveByte_length (s : State) (h2 : 2 ≤ n.toNat) (h242 : n.toNat ≤ 242) : (s.assembling []).receiveByte n = s.assembling [n] := by
  rw [receiveByte_inFrame (buf := []) (gap := 0) rfl, List.nil_append, assemble_more (rest := []) h2 h242 (Nat.succ_pos _)]
  rfl

/-- A byte that is not the last. -/
theorem receiveByte_more (s : State) (h2 : 2 ≤ n.toNat) (h242 : n.toNat ≤ 242) (h : rest.length + 1 < n.toNat + 2) (b : Byte) :
    (s.assembling (n :: rest)).receiveByte b = s.assembling (n :: (rest ++ [b])) := by
  have hlength : (rest ++ [b]).length = rest.length + 1 := List.length_append
  rw [receiveByte_inFrame (buf := n :: rest) (gap := 0) rfl, List.cons_append, assemble_more h2 h242 (hlength.trans_lt h)]
  rfl

/-- The bytes of a frame but for its first two and its last; `receive` is the taking of one character. -/
theorem assembling_all {receive : State → Byte → State}
    (hreceive : ∀ buffer b, receive (s.assembling buffer) b = (s.assembling buffer).receiveByte b)
    (h2 : 2 ≤ n.toNat) (h242 : n.toNat ≤ 242) {before bs : List Byte} (h : before.length + bs.length < n.toNat + 2) :
    bs.foldl receive (s.assembling (n :: before)) = s.assembling (n :: before ++ bs) := by
  induction bs generalizing before with
  | nil => rw [List.foldl_nil, List.append_nil]
  | cons b bs ih =>
    rw [List.length_cons] at h
    have hlength : (before ++ [b]).length = before.length + 1 := List.length_append
    have hnext := ih (before := before ++ [b]) (by omega)
    rw [List.foldl_cons, hreceive, receiveByte_more s h2 h242 (by omega), hnext]
    simp

/-- The bytes of a frame on the line: sync byte, length byte, the bytes between, and the last of the CRC (R144). -/
theorem bytes_eq (f : Frame) :
    f.bytes = 0xC5 :: f.length :: (f.kind :: f.tag :: f.payload ++ [Half.high (crc f.body)] ++ [Half.low (crc f.body)]) := by
  simp [Frame.bytes, Frame.body, Half.bytes]

/-- The characters of a frame are its one event, at a receiver that hunts (R142 to R148, log entry 6). -/
theorem receive_frame {receive : State → Byte → State} (hsync : receive s 0xC5 = s.assembling [])
    (hreceive : ∀ buffer b, receive (s.assembling buffer) b = (s.assembling buffer).receiveByte b) (hw : f.wf = true) :
    f.bytes.foldl receive s = s.acceptFrame f := by
  have hpayload := (wf_iff f).1 hw
  have hlength := toNat_length hw
  have h2 : 2 ≤ f.length.toNat := by omega
  have h242 : f.length.toNat ≤ 242 := by omega
  let between := f.kind :: f.tag :: f.payload ++ [Half.high (crc f.body)]
  have hbetween : between.length = f.length.toNat + 1 := by simp [between, hlength]
  have hwhole : (between ++ [Half.low (crc f.body)]).length = f.length.toNat + 2 := by simp [hbetween]
  have hbuffer : f.length :: (between ++ [Half.low (crc f.body)]) = f.body ++ Half.bytes (crc f.body) := by
    simp [between, Frame.body, Half.bytes]
  calc f.bytes.foldl receive s
      = (between ++ [Half.low (crc f.body)]).foldl receive (receive (s.assembling []) f.length) := by
        rw [bytes_eq, List.foldl_cons, List.foldl_cons, hsync]
    _ = (between ++ [Half.low (crc f.body)]).foldl receive (s.assembling [f.length]) := by
        rw [hreceive, receiveByte_length s h2 h242]
    _ = receive (s.assembling (f.length :: between)) (Half.low (crc f.body)) := by
        rw [List.foldl_append, assembling_all hreceive h2 h242 (by rw [hbetween, List.length_nil]; omega)]
        rfl
    _ = (s.assembling (f.length :: between)).acceptFrame f := by
        have hframe : frameOfBuffer (f.length :: (between ++ [Half.low (crc f.body)])) = some f := by
          rw [hbuffer]
          exact frameOfBuffer_frame hw
        rw [hreceive, receiveByte_inFrame (buf := f.length :: between) (gap := 0) rfl, List.cons_append,
          assemble_frame h2 h242 hwhole hframe]
    _ = s.acceptFrame f := acceptFrame_assembling s _ f

end Sys2Proof.Machine

namespace Sys2Proof.Proofs

open Sys2Proof.Machine Sys2Proof.Spec

/-- Settles O46: the checks in their order, then the byte at each state of the receiver. -/
theorem receiverResponses : Obligations.ReceiverResponses := by
  intro s c hp
  refine ⟨fun hstart => ⟨fun hq => exec_character_glitch hp hq hstart, fun hq => ?_⟩, fun hstart hq => ?_, fun hq hstart hstop => ?_,
    fun hq hstart hstop => ⟨fun hbit => ?_, fun hbit => ?_⟩⟩
  · rw [exec_character_unheard hp (by simpa [hstart] using hq), State.quietAfter, hstart]
    rfl
  · rw [exec_character_unheard hp (by simpa [hstart] using hq), State.quietAfter, hstart]
    cases c.stopBit <;> rfl
  · rw [exec_character_framing hp hq hstart hstop, abandon_eq, addFraming_eq]
    rfl
  · rw [exec_character_parity hp hq hstart hstop hbit, abandon_eq, addParity_eq]
    rfl
  · have hgood := exec_character_good hp hq hstart hstop hbit
    have hframe : ∀ {buffer gap}, s.rx.state = .inFrame buffer gap → ∀ {t}, (s.endCharacter none).assemble (buffer ++ [c.data]) = t →
        exec (.characterReceived c) s = .next t := fun hin _ ht =>
      hgood.trans (congrArg Host.Outcome.next ((receiveByte_inFrame (s := s.endCharacter none) hin c.data).trans ht))
    refine ⟨fun hhunting => ?_, fun gap hin => ⟨fun hbad => hframe hin ?_, fun h2 h242 => hframe hin ?_⟩, fun len rest gap hin h2 h242 => ?_⟩
    · refine hgood.trans (congrArg Host.Outcome.next ((receiveByte_hunting (s := s.endCharacter none) hhunting c.data).trans ?_))
      split
      · rfl
      · rw [← hhunting]
        rfl
    · rw [List.nil_append, assemble_badLength hbad, abandon_eq, addLength_eq]
      rfl
    · rw [List.nil_append, assemble_more (rest := []) h2 h242 (Nat.succ_pos _)]
      rfl
    · have hlength : (rest ++ [c.data]).length = rest.length + 1 := List.length_append
      refine ⟨fun hmore => hframe hin ?_, fun hwhole => ⟨fun hnone => hframe hin ?_, fun f hw hbuffer => ?_⟩⟩
      · rw [List.cons_append, assemble_more h2 h242 (hlength.trans_lt hmore)]
        rfl
      · have hno : frameOfBuffer (len :: (rest ++ [c.data])) = none := Option.eq_none_iff_forall_ne_some.2 fun f hf => by
          obtain ⟨hw, hbuffer⟩ := buffer_of_frame h2 h242 (hlength.trans hwhole) hf
          exact hnone f hw hbuffer
        rw [List.cons_append, assemble_badCrc h2 h242 (hlength.trans hwhole) hno, abandon_eq, addCrc_eq]
        rfl
      · have hyes : frameOfBuffer (len :: (rest ++ [c.data])) = some f := by
          rw [← List.cons_append, hbuffer]
          exact frameOfBuffer_frame hw
        have hgiven := exec_validFrame_of_time (s := { s with rx := { s.rx with quietFrom := none } }) hp hw (quietFor_of_none rfl _)
        exact (hframe hin (assemble_frame h2 h242 (hlength.trans hwhole) hyes)).trans hgiven.symm

/-- Settles O48: room inbound, room outbound alone, and none. -/
theorem validFrameIsHandedOn : Obligations.ValidFrameIsHandedOn := by
  intro s f hp hw hq
  have hexec := exec_validFrame_of_time hp hw hq
  exact ⟨fun hroom => hexec.trans (congrArg Host.Outcome.next (acceptFrame_of_room hroom)),
    fun hfull hout => hexec.trans (congrArg Host.Outcome.next (acceptFrame_of_full hfull hout)),
    fun hfull hnone => hexec.trans (congrArg Host.Outcome.next (acceptFrame_of_dropped hfull hnone))⟩

/-- Settles O47: the gap expiry that is due, and a start bit that the receiver waits for or not. -/
theorem gapAndStartBit : Obligations.GapAndStartBit := by
  intro s
  refine ⟨fun buffer gap hframe hc hgap => ?_, fun hp hc => ⟨fun hq => ?_, fun t ht => ⟨fun htime => ?_, fun htime => ?_⟩⟩⟩
  · rw [exec_gapExpiry_of_due ((gapDue_iff s).2 ⟨hc, buffer, gap, hframe, hgap⟩), abandon_eq, addGap_eq]
  · rw [exec_startBit_heard hp hc (quietFor_of_none hq 0), ← hq]
  · exact exec_startBit_heard hp hc ((quietFor_zero_iff ht).2 htime)
  · exact exec_startBit_unheard hp hc (mt (quietFor_zero_iff ht).1 (not_le.2 htime))

/-- Settles O53: each character is one byte at the receiver, and the last one accepts the frame. -/
theorem frameCharactersMakeAValidFrame : Obligations.FrameCharactersMakeAValidFrame := by
  intro s f hp hhunting hc hq hw
  have hbyte : ∀ buffer b, exec (.characterReceived (s.settings.parity.character b)) (s.assembling buffer)
      = .next ((s.assembling buffer).receiveByte b) := fun buffer => exec_character_of_byte (s := s.assembling buffer) hp hc hq
  have hsync : exec (.characterReceived (s.settings.parity.character 0xC5)) s = .next (s.assembling []) := by
    rw [exec_character_of_byte hp hc hq, receiveByte_hunting hhunting]
    rfl
  rw [exec_validFrame_of_time hp hw (quietFor_of_none hq _), endCharacter_of_clear hc hq]
  refine congrArg Host.Outcome.next (receive_frame ?_ (fun buffer b => ?_) hw)
  · change (match exec (.characterReceived (s.settings.parity.character 0xC5)) s with
      | .next u => u
      | _ => s) = _
    rw [hsync]
  · change (match exec (.characterReceived (s.settings.parity.character b)) (s.assembling buffer) with
      | .next u => u
      | _ => s.assembling buffer) = _
    rw [hbyte]

end Sys2Proof.Proofs

/-! PROOFS. The transmitter, the release of the part, the layout of messages, and a parity byte that SET_LINK lets past (R142 to R145, R151 to R155, R166, chapter 12). -/

namespace Sys2Proof.Machine

open Sys2Proof.Safety Sys2Proof.Spec

variable {s : State}

/-! ### The end of a transmission (R151, R155) -/

/-- Every bit of the head has been sent: it leaves, and the next, if there is one, begins at the settings then in force. -/
theorem exec_transmissionEnd_of_sent {m : Message} {rest : List Message} (h : s.transmitted = true) (hq : s.tx.queue = m :: rest) :
    exec .transmissionEnd s = .next
      { s with settings := m.change.getD s.settings,
               tx := { s.tx with
                 queue := rest,
                 sending := if rest = [] then none else some ⟨s.now, m.change.getD s.settings⟩ } } := by
  change execTransmissionEnd s = _
  rw [execTransmissionEnd, if_pos h, State.sendNext, hq]
  cases rest <;> rfl

/-! ### The release of the part (R166) -/

theorem exec_resetRelease_of_held (straps : BitVec 2) (h : s.phase = .held) : exec (.resetRelease straps) s = .next
    { s with
      phase := .starting s.now, settings := ⟨Rate.ofStraps straps, .none⟩, rx := { s.rx with state := .hunting },
      triggers := s.triggers.map fun f => { f with since := s.now },
      sync := { s.sync with since := s.now }, kill := { s.kill with since := s.now } } := if_pos ((isHeld_iff s).2 h)

/-- The notices are offered one after the other; the first leaves KILL_N as it is. -/
theorem exec_startUpEvent_of_due (h : s.startUpDue = true) : exec .startUpEvent s = .next
    { offered s ([.notice .resetDone] ++ if s.kill.asserted then [.notice .killAsserted] else []) with phase := .started } := by
  refine (if_pos h).trans ?_
  simp only [offer_kill]
  cases s.kill.asserted <;> rfl

/-! ### A parity byte past the codes of Table 12-1 -/

/-- The execution of a SET_LINK frame with rate 2, window 0 and parity 3, which names no parity. -/
def parityThreeExecution : Execution := { frame := ⟨0x04, 0, [2, 3, 0, 0]⟩, answer := none, eventAt := 0, completeAt := 0 }

/-- The part started, with that frame in execution. -/
def parityThreeState : State := { State.reset with phase := .started, proc := .executing parityThreeExecution }

theorem parityThree_awaited : Awaited parityThreeState parityThreeExecution (.setLink 2 3 0) := ⟨rfl, rfl, rfl⟩

/-- The reading of the parity byte takes every byte past 2 as NONE. -/
theorem parity_three_read : Parity.ofCode 3 = some .none := rfl

theorem parityThree_answered_ok : (setLinkEffect 2 3 0 parityThreeState).2.code = .ok := by
  rw [setLinkEffect, parity_three_read]
  rfl

/-! ### What TXD carries (R142, R144, R151) -/

/-- Bits added one after the other tell whether their number is odd. -/
theorem foldl_xor (f : Nat → Bool) (is : List Nat) (p : Bool) :
    is.foldl (fun q i => xor q (f i)) p = xor p (decide (is.countP f % 2 = 1)) := by
  induction is generalizing p with
  | nil => simp
  | cons i is ih =>
    rw [List.foldl_cons, ih, List.countP_cons]
    cases f i
    · simp
    · rcases Nat.mod_two_eq_zero_or_one (is.countP f) with h | h <;> simp [Nat.add_mod, h]

theorem oddOnes_eq (b : Byte) : oddOnes b = decide ((List.range 8).countP b.getLsbD % 2 = 1) := by
  rw [oddOnes, foldl_xor, Bool.false_xor]

/-- The bits of a character, parity by parity. -/
theorem charBits_eq_levels (p : Parity) (b : Byte) : charBits p b = levels p b := by
  cases p <;> simp [charBits, levels, Parity.bit, oddOnes_eq]

/-- The check value of the CRC, that of the nine ASCII digits from 1 on (R145). -/
theorem crc_check : crc [0x31, 0x32, 0x33, 0x34, 0x35, 0x36, 0x37, 0x38, 0x39] = 0x29B1 := by decide +kernel

theorem txd_of_sending {m : Message} {rest : List Message} {x : Transmission} (hq : s.tx.queue = m :: rest) (hx : s.tx.sending = some x) :
    s.txd = ((m.frame.bytes.flatMap (levels x.settings.parity))[(s.now - x.startedAt) * x.settings.rate.bps / 10000000]?).getD true := by
  rw [← funext (charBits_eq_levels x.settings.parity), State.txd, hq, hx]
  rfl

end Sys2Proof.Machine

namespace Sys2Proof.Proofs

open Sys2Proof.Machine Sys2Proof.Spec

/-- Settles O51: the change of settings is that of a reply; a report has none. -/
theorem transmissionEndSendsTheNext : Obligations.TransmissionEndSendsTheNext := by
  intro s m rest x hq hx htime
  rw [← charBits_eq] at htime
  have hexec := exec_transmissionEnd_of_sent ((transmitted_iff s).2 ⟨m, rest, x, hq, hx, htime⟩) hq
  cases m with
  | reply kind tag a => exact hexec
  | report lost r => exact hexec

/-- Settles O9: the release, then the start-up event with KILL_N asserted or not. -/
theorem releaseAndStartUp : Obligations.ReleaseAndStartUp := fun s =>
  ⟨fun straps h => exec_resetRelease_of_held straps h,
    fun released h hdue => exec_startUpEvent_of_due ((startUpDue_iff s).2 ⟨released, h, hdue⟩)⟩

/-- Refutes O12: `Parity.ofCode` reads every byte past 2 as parity NONE, since the `none` of its last branch is `Parity.none`, so that
SET_LINK with parity 3 is accepted where R154 has it refused with BAD_VALUE. -/
theorem not_setLinkChangesTheWindowAtOnce : ¬ Obligations.SetLinkChangesTheWindowAtOnce := by
  intro h
  obtain ⟨-, hrefused⟩ := h parityThreeState parityThreeExecution 2 3 0 parityThree_awaited
  have hexec := command_of_awaited parityThree_awaited (setLinkEffect 2 3 0)
  have hcode := answer_code_unique (hexec.symm.trans (hrefused (Or.inr (Or.inl (by decide)))))
  rw [parityThree_answered_ok] at hcode
  cases hcode

/-- Settles O44: the level of TXD, then the layouts, each by the cases of what is laid out. -/
theorem messagesAreLaidOut : Obligations.MessagesAreLaidOut := by
  refine ⟨fun s m rest x hq hx => txd_of_sending hq hx, fun f => ?_, crc_check, fun _ => rfl, fun _ => rfl, fun _ => rfl, fun _ _ _ => rfl,
    fun lost r => ?_, fun r => ?_, fun f => ?_, fun c => ?_⟩
  · simp [Frame.bytes, Frame.body, Frame.length, byteOf]
  · cases r <;> rfl
  · cases r with
    | laneState n st cause => cases cause <;> rfl
    | stepEnd | entryEnd | notice => rfl
  · cases f <;> rfl
  · cases c with
    | lane n config st length next current => cases current <;> rfl
    | part | lines | link | seq => rfl

/-- Settles O45, name by name. -/
theorem namesHaveTheirCodes : Obligations.NamesHaveTheirCodes :=
  ⟨rfl, rfl, fun _ => rfl, rfl, rfl, rfl, rfl, rfl, rfl, rfl, rfl, rfl, rfl, rfl, rfl, rfl, fun _ _ => rfl, fun _ _ => rfl, rfl, rfl,
    fun _ => rfl, fun _ _ => rfl, rfl, fun _ _ => ⟨rfl, rfl, rfl, rfl⟩, fun _ h => toNat_byteOf h⟩

end Sys2Proof.Proofs

/-! PROOFS. Every row of the opcode table answers a next state, takes no time and leaves the queue (R159, log entries 1 and 2). -/

namespace Sys2Proof.Machine

variable {s t u : State}

/-! ### The time and the queue -/

/-- The time and the queue of those still to be taken are as they were. -/
structure SameClock (s t : State) : Prop where
  now : t.now = s.now := by rfl
  pending : t.pending = s.pending := by rfl

theorem SameClock.refl (s : State) : SameClock s s := {}

theorem SameClock.trans (a : SameClock s t) (b : SameClock t u) : SameClock s u := ⟨b.now.trans a.now, b.pending.trans a.pending⟩

/-- Either of two states, on a condition. -/
theorem SameClock.either {p : Prop} [Decidable p] (a : SameClock s t) (b : SameClock s u) : SameClock s (if p then t else u) := by
  split
  · exact a
  · exact b

/-- A check that refuses, before what comes next. -/
theorem SameClock.check {p : Prop} [Decidable p] {r : State × Answer} {a : Answer} (h : SameClock s r.1) :
    SameClock s (if p then (s, a) else r).1 := by
  split
  · exact {}
  · exact h

/-- The acts of lanes take no time. -/
theorem Untouched.sameClock (h : Untouched s t) : SameClock s t := ⟨h.now, h.pending⟩

theorem sameClock_offer (s : State) (r : Report) : SameClock s (s.offer r) := ⟨offer_now s r, offer_pending s r⟩

theorem sameClock_offerAll (s : State) : SameClock s s.offerAll := by
  rw [offerAll_eq]
  exact {}

/-! ### A next state at once -/

/-- A next state, with the time and the queue of s. -/
def AtOnce (s : State) (o : Out) : Prop := ∃ t, o = .next t ∧ SameClock s t

theorem SameClock.atOnce (h : SameClock s t) : AtOnce s (.next t) := ⟨t, rfl, h⟩

theorem AtOnce.stay (s : State) : AtOnce s (.next s) := SameClock.atOnce {}

/-- Either of two answers, on a condition. -/
theorem AtOnce.either {p : Prop} [Decidable p] {a b : Out} (ha : AtOnce s a) (hb : AtOnce s b) : AtOnce s (if p then a else b) := by
  split
  · exact ha
  · exact hb

/-- The event of a command, whose effect takes no time; the answer is kept beside it (R159). -/
theorem SameClock.command {c : Instr} {effect : State → State × Answer} (h : SameClock s (effect s).1) : AtOnce s (s.command c effect) := by
  unfold State.command
  split
  · exact .either ⟨_, rfl, h.now, h.pending⟩ (.stay s)
  · exact .stay s

/-! ### The commands beside the lanes -/

theorem sameClock_getStatus (scope arg : Byte) (s : State) : SameClock s (getStatusEffect scope arg s).1 := by
  unfold getStatusEffect
  split
  · unfold State.clearedBy
    split <;> exact {}
  · exact {}

theorem sameClock_setLink (rate parity : Byte) (window : Half) (s : State) : SameClock s (setLinkEffect rate parity window s).1 := by
  unfold setLinkEffect
  split
  · split <;> exact {}
  · exact {}

theorem sameClock_reinit (s : State) : SameClock s (reinitEffect s).1 := (sameClock_offerAll s).trans {}

theorem sameClock_configLine (line polarity safeLevel : Byte) (s : State) : SameClock s (configLineEffect line polarity safeLevel s).1 := by
  unfold configLineEffect
  split
  · exact .check {}
  · exact {}

theorem sameClock_setPair (a b : Byte) (s : State) : SameClock s (setPairEffect a b s).1 := by
  unfold setPairEffect
  split
  · exact .check (.check (.check (.check {})))
  · exact {}

theorem sameClock_clearPair (a : Byte) (s : State) : SameClock s (clearPairEffect a s).1 := by
  unfold clearPairEffect
  split
  · split
    · exact .check {}
    · exact {}
  · exact {}

theorem sameClock_openSeq (id length : Byte) (s : State) : SameClock s (openSeqEffect id length s).1 := by
  unfold openSeqEffect
  split
  · exact {}
  · exact .check (.check (.check {}))

theorem sameClock_appendSeq (id offset : Byte) (raw : List RawStep) (s : State) : SameClock s (appendSeqEffect id offset raw s).1 := by
  unfold appendSeqEffect
  split
  · exact {}
  · dsimp only
    split
    · exact {}
    · exact {}
    · refine .check (.check ?_)
      split <;> exact {}

theorem sameClock_deleteSeq (id : Byte) (s : State) : SameClock s (deleteSeqEffect id s).1 := by
  unfold deleteSeqEffect
  split
  · exact {}
  · exact .check (.check {})

theorem sameClock_pulseSync (s : State) : SameClock s (pulseSyncEffect s).1 := by
  unfold pulseSyncEffect
  split <;> exact {}

/-! ### The commands of several lanes, or of a lane and its lines -/

/-- A cause of safe hold that comes first is taken by its lane (R13, R36). -/
theorem sameClock_takeFirst_holds (s : State) (n : LaneNo) : SameClock s (s.takeFirst (SetOff.holds n)) := by
  rcases takeFirst_cases s (SetOff.holds n) with h | ⟨e, -, hp, h⟩
  · rw [h]
    exact {}
  · obtain ⟨c, rfl⟩ := holds_iff.1 hp
    rw [h]
    exact ((untouched_setOff s _).trans (laneAct_enterSafe _ n c).untouched).sameClock

theorem sameClock_configLane (n : LaneNo) (raw : RawConfig) (s : State) : SameClock s (configLaneEffect n raw s).1 := by
  refine (sameClock_takeFirst_holds s n).trans ?_
  unfold configLaneEffect configureEffect
  split
  · exact {}
  · rw [configure_eq]
    exact {}

theorem sameClock_start (lanes : LaneSet) (mode : Byte) (s : State) : SameClock s (startEffect lanes mode s).1 := by
  rw [startEffect_eq]
  refine (untouched_blocksTaken (lanesOf lanes) s).sameClock.trans ?_
  unfold startLanesEffect
  split
  · exact {}
  · exact {}
  · next m _ _ _ _ =>
    split
    · exact {}
    · cases m with
      | now => exact (untouched_eachLane laneAct_beginHead _ _).sameClock
      | onSync => exact (untouched_eachLane (fun v n => laneAct_setLaneState v n .armed) _ _).sameClock

theorem sameClock_abort (lanes : LaneSet) (s : State) : SameClock s (abortEffect lanes s).1 := by
  by_cases hempty : lanes = 0
  · subst hempty
    exact {}
  · rw [abortEffect_of_lanes hempty]
    exact (untouched_aborted s lanes).sameClock

theorem sameClock_clearFault (n : LaneNo) (s : State) : SameClock s (clearFaultEffect n s).1 :=
  .check (.check (by rw [clearSafe_eq]; exact {}))

/-! ### The receiver -/

theorem sameClock_handOn (s : State) (f : Frame) : SameClock s (s.handOn f) := .either {} (.either {} {})

theorem sameClock_acceptFrame (s : State) (f : Frame) : SameClock s (s.acceptFrame f) := by
  have h := sameClock_handOn { s with keepalive := s.keepalive.restart } f
  exact ⟨h.now, h.pending⟩

theorem sameClock_assemble (s : State) (buffer : List Byte) : SameClock s (s.assemble buffer) := by
  unfold State.assemble
  split
  · exact {}
  · refine .either {} (.either {} ?_)
    split
    · exact sameClock_acceptFrame s _
    · exact {}

theorem sameClock_receiveByte (s : State) (b : Byte) : SameClock s (s.receiveByte b) := by
  unfold State.receiveByte
  split
  · exact .either {} {}
  · exact sameClock_assemble s _

theorem atOnce_characterReceived (c : Character) (s : State) : AtOnce s (execCharacterReceived c s) := by
  refine .either (.stay s) (.either (SameClock.atOnce {}) (.either (SameClock.atOnce {}) ?_))
  split
  · exact SameClock.atOnce {}
  · exact SameClock.atOnce {}
  · have h := sameClock_receiveByte (s.endCharacter none) c.data
    exact SameClock.atOnce ⟨h.now, h.pending⟩

theorem atOnce_validFrame (f : Frame) (s : State) : AtOnce s (execValidFrame f s) := by
  have h := sameClock_acceptFrame (s.endCharacter none) f
  exact .either (.stay s) (SameClock.atOnce ⟨h.now, h.pending⟩)

/-! ### The Command Processor, the transmitter and the start of the part -/

theorem atOnce_frameTake (s : State) : AtOnce s (execFrameTake s) := by
  refine .either ?_ (.stay s)
  split
  · exact ⟨_, rfl, (draw_now _).trans (draw_now s), (draw_pending _).trans (draw_pending s)⟩
  · exact .stay s

theorem atOnce_commandCompletion (s : State) : AtOnce s (execCommandCompletion s) := by
  unfold execCommandCompletion
  split
  · split
    · exact ((sameClock_offerAll s).trans {}).atOnce
    · exact .stay s
  · exact .stay s

theorem sameClock_sendNext (s : State) : SameClock s s.sendNext := by
  unfold State.sendNext
  split <;> exact {}

theorem atOnce_startUpEvent (s : State) : AtOnce s (execStartUpEvent s) := by
  have hdone := sameClock_offer s (.notice .resetDone)
  have hnotices := SameClock.either (p := (s.offer (.notice .resetDone)).kill.asserted = true)
    (hdone.trans (sameClock_offer _ (.notice .killAsserted))) hdone
  exact .either (hnotices.trans {}).atOnce (.stay s)

/-! ### The inputs and the guard -/

theorem sameClock_adopt (s : State) (input : FilteredInput) (level : Level) : SameClock s (s.adopt input level) := by
  cases input with
  | trigger i => exact .either {} {}
  | syncN => exact .either {} {}
  | killN => exact .either {} (.either {} {})

theorem atOnce_guardExpiry (l : LineNo) (s : State) : AtOnce s (execGuardExpiry l s) := by
  refine .either ?_ (.stay s)
  split <;> exact SameClock.atOnce {}

/-! ### Every row -/

theorem atOnce_exec (c : Instr) (s : State) : AtOnce s (exec c s) := by
  cases c with
  | identify => exact SameClock.command (effect := identifyEffect) {}
  | ping => exact SameClock.command (effect := pingEffect) {}
  | getStatus scope arg => exact (sameClock_getStatus scope arg s).command
  | setLink rate parity window => exact (sameClock_setLink rate parity window s).command
  | reinit => exact (sameClock_reinit s).command
  | configLine line polarity safeLevel => exact (sameClock_configLine line polarity safeLevel s).command
  | setPair a b => exact (sameClock_setPair a b s).command
  | clearPair a => exact (sameClock_clearPair a s).command
  | configLane n raw => exact (sameClock_configLane n raw s).command
  | enqueue n entries => exact (laneTurn_enqueue n entries s).untouched.sameClock.command
  | start lanes mode => exact (sameClock_start lanes mode s).command
  | openSeq id length => exact (sameClock_openSeq id length s).command
  | appendSeq id offset steps => exact (sameClock_appendSeq id offset steps s).command
  | deleteSeq id => exact (sameClock_deleteSeq id s).command
  | pulseSync => exact (sameClock_pulseSync s).command
  | pause n => exact (laneTurn_pause n s).untouched.sameClock.command
  | resume n => exact (laneTurn_resume n s).untouched.sameClock.command
  | stop n mode => exact (laneTurn_stop n mode s).untouched.sameClock.command
  | breakPass n => exact (laneTurn_break n s).untouched.sameClock.command
  | amend n serial d => exact (laneTurn_amend n serial d s).untouched.sameClock.command
  | flush n => exact (laneTurn_flush n s).untouched.sameClock.command
  | abort lanes => exact (sameClock_abort lanes s).command
  | clearFault n => exact (sameClock_clearFault n s).command
  | pinReset => exact SameClock.atOnce {}
  | resetRelease straps => exact .either (SameClock.atOnce {}) (.stay s)
  | startUpEvent => exact atOnce_startUpEvent s
  | characterReceived c => exact atOnce_characterReceived c s
  | gapExpiry => exact .either (SameClock.atOnce {}) (.stay s)
  | validFrame f => exact atOnce_validFrame f s
  | frameTake => exact atOnce_frameTake s
  | commandCompletion => exact atOnce_commandCompletion s
  | transmissionEnd => exact .either (sameClock_sendNext s).atOnce (.stay s)
  | keepaliveExpiry => exact .either (SameClock.atOnce {}) (.stay s)
  | killAssertion => exact .either (.stay s) (SameClock.either {} {}).atOnce
  | killRelease => exact .either (.stay s) (SameClock.either {} {}).atOnce
  | triggerEdge i e => exact .either (.stay s) (SameClock.atOnce {})
  | syncEdge => exact .either (.stay s) (SameClock.atOnce {})
  | syncPulseExpiry => exact .either (SameClock.atOnce {}) (.stay s)
  | stepEndTimer n => exact .either (laneTurn_endByTimer s n _).untouched.sameClock.atOnce (.stay s)
  | blankingEnd n => exact .either (SameClock.atOnce {}) (.stay s)
  | stepTimeout n => exact .either (laneTurn_endByTimer s n _).untouched.sameClock.atOnce (.stay s)
  | guardExpiry l => exact atOnce_guardExpiry l s
  | startBitRecognized => exact .either (.stay s) (.either (SameClock.atOnce {}) (SameClock.atOnce {}))
  | syncLowToHigh => exact .either (.stay s) (SameClock.atOnce {})
  | filterLevelAdopted input level => exact .either (.stay s) (sameClock_adopt s input level).atOnce

end Sys2Proof.Machine

namespace Sys2Proof.Proofs

open Sys2Proof.Machine

/-- Settles O4, row by row. -/
theorem everyRowHasANextStateAtOnce : Obligations.EveryRowHasANextStateAtOnce := by
  intro c s
  obtain ⟨t, hexec, hclock⟩ := atOnce_exec c s
  exact ⟨t, hexec, hclock.pending, hclock.now⟩

end Sys2Proof.Proofs

/-! PROOFS. Reading a frame (R160, R174 to R176): every command is read back out of its own frame, and the general checks refuse in their order. -/

namespace Sys2Proof.Laws.Fits

/-- Every row of the opcode table. -/
theorem everyRow (i : Instr) : Statement i := by
  cases i with
  | identify => exact identify
  | ping => exact ping
  | getStatus scope argument => exact getStatus scope argument
  | setLink rate parity window => exact setLink rate parity window
  | reinit => exact reinit
  | configLine line polarity safeLevel => exact configLine line polarity safeLevel
  | setPair a b => exact setPair a b
  | clearPair a => exact clearPair a
  | configLane lane config => exact configLane lane config
  | enqueue lane entries => exact enqueue lane entries
  | start lanes mode => exact start lanes mode
  | openSeq id length => exact openSeq id length
  | appendSeq id offset steps => exact appendSeq id offset steps
  | deleteSeq id => exact deleteSeq id
  | pulseSync => exact pulseSync
  | pause lane => exact pause lane
  | resume lane => exact resume lane
  | stop lane mode => exact stop lane mode
  | breakPass lane => exact breakPass lane
  | amend lane serial duration => exact amend lane serial duration
  | flush lane => exact flush lane
  | abort lanes => exact abort lanes
  | clearFault lane => exact clearFault lane
  | _ => exact of_none rfl

end Sys2Proof.Laws.Fits

namespace Sys2Proof

/-! ### Every command out of its own frame -/

theorem decodeLane_byteOf (c : LaneNo → Instr) (n : LaneNo) : decodeLane c [byteOf n.val] = .ok (c n) := by
  rw [decodeLane, laneOf_byteOf]
  rfl

theorem decodeGetStatus_of_wf {scope arg : Byte} (hw : (Instr.getStatus scope arg).wf = true) :
    decodeGetStatus [scope, arg] = .ok (.getStatus scope arg) := by
  have hlane : ¬ (scope = 1 ∧ 3 < arg.toNat) := by
    simpa [Instr.wf, or_iff_not_imp_left] using hw
  rw [decodeGetStatus, if_neg hlane]

theorem decodeSetLink_bytes (rate parity : Byte) (window : Half) :
    decodeSetLink ([rate, parity] ++ Half.bytes window) = .ok (.setLink rate parity window) := by
  simp [decodeSetLink, Half.bytes]

theorem decodeConfigLane_bytes (lane : LaneNo) (config : RawConfig) :
    decodeConfigLane (byteOf lane.val :: config.bytes) = .ok (.configLane lane config) := by
  simp [decodeConfigLane, RawConfig.bytes, LineSet.bytes, Except.map]

theorem decodeAmend_bytes (lane : LaneNo) (serial d : Half) :
    decodeAmend (byteOf lane.val :: (Half.bytes serial ++ Half.bytes d)) = .ok (.amend lane serial d) := by
  simp [decodeAmend, Half.bytes, Except.map]

theorem decodeEnqueue_bytes {lane : LaneNo} {es : List RawEntry} (hw : (Instr.enqueue lane es).wf = true) :
    decodeEnqueue ([byteOf lane.val, byteOf es.length] ++ es.flatMap RawEntry.bytes) = .ok (.enqueue lane es) := by
  simp only [Instr.wf, Bool.and_eq_true, decide_eq_true_eq] at hw
  obtain ⟨⟨hone, height⟩, hentries⟩ := hw
  have hcount : (byteOf es.length).toNat = es.length := toNat_byteOf (by omega)
  simp only [List.cons_append, List.nil_append, decodeEnqueue, hcount, if_pos (And.intro hone height), readEntries_bytes es hentries,
    laneOf_byteOf]
  rfl

theorem decodeAppendSeq_bytes {id offset : Byte} {ss : List RawStep} (hw : (Instr.appendSeq id offset ss).wf = true) :
    decodeAppendSeq ([id, offset, byteOf ss.length] ++ ss.flatMap RawStep.bytes) = .ok (.appendSeq id offset ss) := by
  simp only [Instr.wf, Bool.and_eq_true, decide_eq_true_eq] at hw
  have hcount : (byteOf ss.length).toNat = ss.length := toNat_byteOf (by omega)
  simp only [List.cons_append, List.nil_append, decodeAppendSeq, hcount, if_pos hw, readSteps_bytes ss]

/-- Reading the frame of a command gives the command again, command by command (Table 12-3). -/
theorem decodeFrame_payload {c : Instr} {k : Byte} {p : List Byte} (tag : Byte) (hw : c.wf = true)
    (hc : c.kindAndPayload = some (k, p)) : decodeFrame ⟨k, tag, p⟩ = .ok c := by
  cases c with
  | getStatus scope arg => cases hc; exact decodeGetStatus_of_wf hw
  | setLink rate parity window => cases hc; exact decodeSetLink_bytes rate parity window
  | configLane lane config => cases hc; exact decodeConfigLane_bytes lane config
  | enqueue lane es => cases hc; exact decodeEnqueue_bytes hw
  | appendSeq id offset ss => cases hc; exact decodeAppendSeq_bytes hw
  | start lanes mode => cases hc; exact congrArg (Except.map (Instr.start · mode)) (laneSetOf_byte lanes)
  | abort lanes => cases hc; exact congrArg (Except.map Instr.abort) (laneSetOf_byte lanes)
  | stop lane mode => cases hc; exact congrArg (Except.map (Instr.stop · mode)) (laneOf_byteOf lane)
  | amend lane serial d => cases hc; exact decodeAmend_bytes lane serial d
  | pause lane | resume lane | breakPass lane | flush lane | clearFault lane => cases hc; exact decodeLane_byteOf _ lane
  | identify | ping | reinit | pulseSync | configLine | setPair | clearPair | openSeq | deleteSeq => cases hc; rfl
  | _ => cases hc

/-! ### The kind and the length (checks 1 and 2 of R160) -/

theorem decodeFrame_badKind {f : Frame} (h : f.kind.toNat = 0 ∨ 0x17 < f.kind.toNat) : decodeFrame f = .error .badKind := by
  unfold decodeFrame
  split
  case h_24 => rfl
  all_goals omega

/-- The commands without payload. -/
def bareKinds : List Byte := [0x01, 0x03, 0x05, 0x0F]

/-- The commands whose payload is of one size, with that size (Table 12-3). -/
def payloadSizes : List (Byte × Nat) :=
  [(0x02#8, 2), (0x04#8, 4), (0x06#8, 3), (0x07#8, 2), (0x08#8, 1), (0x09#8, 16), (0x0B#8, 2), (0x0C#8, 2), (0x0E#8, 1),
   (0x10#8, 1), (0x11#8, 1), (0x12#8, 2), (0x13#8, 1), (0x14#8, 5), (0x15#8, 1), (0x16#8, 1), (0x17#8, 1)]

theorem decodeBare_badLength (c : Instr) {p : List Byte} (h : p ≠ []) : decodeBare c p = .error .badLength := by
  cases p with
  | nil => exact absurd rfl h
  | cons _ _ => rfl

theorem decodeFrame_bare_badLength {f : Frame} (hk : f.kind ∈ bareKinds) (h : f.payload ≠ []) : decodeFrame f = .error .badLength := by
  obtain ⟨kind, tag, p⟩ := f
  simp only [bareKinds, List.mem_cons, List.not_mem_nil, or_false] at hk
  rcases hk with rfl | rfl | rfl | rfl <;> exact decodeBare_badLength _ h

/-- Each of these decoders has one pattern of the command's size, and refuses all else. -/
theorem decodeFrame_sized_badLength {f : Frame} {size : Nat} (hk : (f.kind, size) ∈ payloadSizes) (h : f.payload.length ≠ size) :
    decodeFrame f = .error .badLength := by
  obtain ⟨kind, tag, p⟩ := f
  simp only [payloadSizes, List.mem_cons, Prod.mk.injEq, List.not_mem_nil, or_false] at hk
  rcases hk with ⟨rfl, rfl⟩ | ⟨rfl, rfl⟩ | ⟨rfl, rfl⟩ | ⟨rfl, rfl⟩ | ⟨rfl, rfl⟩ | ⟨rfl, rfl⟩ | ⟨rfl, rfl⟩ | ⟨rfl, rfl⟩ | ⟨rfl, rfl⟩
    | ⟨rfl, rfl⟩ | ⟨rfl, rfl⟩ | ⟨rfl, rfl⟩ | ⟨rfl, rfl⟩ | ⟨rfl, rfl⟩ | ⟨rfl, rfl⟩ | ⟨rfl, rfl⟩ | ⟨rfl, rfl⟩
  all_goals
    simp only [decodeFrame, BitVec.toNat_ofNat, Nat.reducePow, Nat.reduceMod, decodeGetStatus, decodeSetLink, decodeConfigLine,
      decodeSetPair, decodeClearPair, decodeConfigLane, decodeStart, decodeOpenSeq, decodeDeleteSeq, decodeLane, decodeStop, decodeAmend,
      decodeAbort]
    split
    · exact absurd rfl h
    · rfl

/-! ### The counted commands (R176) -/

/-- Entries are read from seven bytes each, exactly (R175). -/
theorem length_of_readEntries {n : Nat} {p : List Byte} {es : List RawEntry} (h : readEntries n p = some es) : p.length = 7 * n := by
  induction n, p using readEntries.induct generalizing es with
  | case1 => rfl
  | case2 n k b1 b2 b3 b4 b5 b6 rest ih =>
    obtain ⟨tail, htail, -⟩ := Option.map_eq_some_iff.1 h
    simp only [List.length_cons, ih htail]
    omega
  | case3 n p hzero hsucc =>
    rw [readEntries.eq_3 n p hzero hsucc] at h
    cases h

theorem readEntries_of_length : ∀ {n : Nat} {p : List Byte}, p.length = 7 * n → ∃ es, readEntries n p = some es
  | 0, [], _ => ⟨[], rfl⟩
  | n + 1, k :: b1 :: b2 :: b3 :: b4 :: b5 :: b6 :: rest, h => by
    obtain ⟨es, hes⟩ := readEntries_of_length (n := n) (p := rest) (by simp only [List.length_cons] at h; omega)
    exact ⟨_, by rw [readEntries, hes]; rfl⟩

/-- Steps are read from six bytes each, exactly (R175). -/
theorem length_of_readSteps {n : Nat} {p : List Byte} {ss : List RawStep} (h : readSteps n p = some ss) : p.length = 6 * n := by
  induction n, p using readSteps.induct generalizing ss with
  | case1 => rfl
  | case2 n a b c d1 d0 adv rest ih =>
    obtain ⟨tail, htail, -⟩ := Option.map_eq_some_iff.1 h
    simp only [List.length_cons, ih htail]
    omega
  | case3 n p hzero hsucc =>
    rw [readSteps.eq_3 n p hzero hsucc] at h
    cases h

theorem decodeEnqueue_badLength {p : List Byte} (h : ¬ ∃ lane count rest, p = lane :: count :: rest ∧ 1 ≤ count.toNat ∧ count.toNat ≤ 8
    ∧ rest.length = 7 * count.toNat) : decodeEnqueue p = .error .badLength := by
  unfold decodeEnqueue
  split
  · next lane count rest =>
    split
    · next hcount =>
      have hnone : readEntries count.toNat rest = none := Option.eq_none_iff_forall_ne_some.2 fun _ hes =>
        h ⟨lane, count, rest, rfl, hcount.1, hcount.2, length_of_readEntries hes⟩
      rw [hnone]
    · rfl
  · rfl

theorem decodeAppendSeq_badLength {p : List Byte} (h : ¬ ∃ id offset count rest, p = id :: offset :: count :: rest ∧ 1 ≤ count.toNat
    ∧ count.toNat ≤ 32 ∧ rest.length = 6 * count.toNat) : decodeAppendSeq p = .error .badLength := by
  unfold decodeAppendSeq
  split
  · next id offset count rest =>
    split
    · next hcount =>
      have hnone : readSteps count.toNat rest = none := Option.eq_none_iff_forall_ne_some.2 fun _ hss =>
        h ⟨id, offset, count, rest, rfl, hcount.1, hcount.2, length_of_readSteps hss⟩
      rw [hnone]
    · rfl
  · rfl

/-! ### The lanes (check 3 of R160) -/

/-- The commands of one lane whose payload is of one size, with that size (Table 12-3). -/
def laneSizes : List (Byte × Nat) :=
  [(0x09, 16), (0x10, 1), (0x11, 1), (0x12, 2), (0x13, 1), (0x14, 5), (0x15, 1), (0x17, 1)]

theorem laneOf_badLane {b : Byte} (h : 3 < b.toNat) : laneOf b = .error .badLane := dif_neg (by omega)

theorem laneSetOf_badLane {b : Byte} (h : 15 < b.toNat) : laneSetOf b = .error .badLane := if_neg (by omega)

section

variable {lane : Byte} (h : 3 < lane.toNat)

include h

theorem decodeLane_badLane (c : LaneNo → Instr) : ∀ rest : List Byte, rest.length = 0 → decodeLane c (lane :: rest) = .error .badLane
  | [], _ => by rw [decodeLane, laneOf_badLane h]; rfl

theorem decodeStop_badLane : ∀ rest : List Byte, rest.length = 1 → decodeStop (lane :: rest) = .error .badLane
  | [_], _ => by rw [decodeStop, laneOf_badLane h]; rfl

theorem decodeAmend_badLane : ∀ rest : List Byte, rest.length = 4 → decodeAmend (lane :: rest) = .error .badLane
  | [_, _, _, _], _ => by rw [decodeAmend, laneOf_badLane h]; rfl

theorem decodeConfigLane_badLane : ∀ rest : List Byte, rest.length = 15 → decodeConfigLane (lane :: rest) = .error .badLane
  | [_, _, _, _, _, _, _, _, _, _, _, _, _, _, _], _ => by rw [decodeConfigLane, laneOf_badLane h]; rfl

theorem decodeEnqueue_badLane {count : Byte} {tail : List Byte} (h1 : 1 ≤ count.toNat) (h8 : count.toNat ≤ 8)
    (hlength : tail.length = 7 * count.toNat) : decodeEnqueue (lane :: count :: tail) = .error .badLane := by
  obtain ⟨es, hes⟩ := readEntries_of_length hlength
  simp only [decodeEnqueue, if_pos (And.intro h1 h8), hes, laneOf_badLane h]
  rfl

theorem decodeFrame_badLane {f : Frame} {rest : List Byte} {size : Nat} (hp : f.payload = lane :: rest) (hk : (f.kind, size) ∈ laneSizes)
    (hlength : f.payload.length = size) : decodeFrame f = .error .badLane := by
  obtain ⟨kind, tag, p⟩ := f
  obtain rfl : p = lane :: rest := hp
  simp only [laneSizes, List.mem_cons, Prod.mk.injEq, List.not_mem_nil, or_false] at hk
  have hrest : rest.length + 1 = size := hlength
  rcases hk with ⟨rfl, rfl⟩ | ⟨rfl, rfl⟩ | ⟨rfl, rfl⟩ | ⟨rfl, rfl⟩ | ⟨rfl, rfl⟩ | ⟨rfl, rfl⟩ | ⟨rfl, rfl⟩ | ⟨rfl, rfl⟩
  · exact decodeConfigLane_badLane h rest (Nat.succ.inj hrest)
  · exact decodeLane_badLane h _ rest (Nat.succ.inj hrest)
  · exact decodeLane_badLane h _ rest (Nat.succ.inj hrest)
  · exact decodeStop_badLane h rest (Nat.succ.inj hrest)
  · exact decodeLane_badLane h _ rest (Nat.succ.inj hrest)
  · exact decodeAmend_badLane h rest (Nat.succ.inj hrest)
  · exact decodeLane_badLane h _ rest (Nat.succ.inj hrest)
  · exact decodeLane_badLane h _ rest (Nat.succ.inj hrest)

end

theorem decodeStart_badLane {set : Byte} (h : 15 < set.toNat) : ∀ rest : List Byte, rest.length = 1 →
    decodeStart (set :: rest) = .error .badLane
  | [_], _ => by rw [decodeStart, laneSetOf_badLane h]; rfl

theorem decodeAbort_badLane {set : Byte} (h : 15 < set.toNat) : ∀ rest : List Byte, rest.length = 0 →
    decodeAbort (set :: rest) = .error .badLane
  | [], _ => by rw [decodeAbort, laneSetOf_badLane h]; rfl

/-- The reading of a frame goes by its kind, and its tag plays no part (R160). -/
theorem decodeFrame_of {f : Frame} {k : Byte} {p : List Byte} (hk : f.kind = k) (hp : f.payload = p) :
    decodeFrame f = decodeFrame ⟨k, 0, p⟩ := by
  subst hk hp
  rfl

end Sys2Proof

namespace Sys2Proof.Proofs

/-- Settles O52: the command is read back, and its payload fits. -/
theorem commandFramesAreReadBack : Obligations.CommandFramesAreReadBack := by
  intro c tag f hw hf
  obtain ⟨⟨k, p⟩, hc, rfl⟩ := Option.map_eq_some_iff.1 hf
  exact ⟨decodeFrame_payload tag hw hc, decide_eq_true (Laws.Fits.everyRow c hw k p hc)⟩

/-- Settles O49, check by check. -/
theorem generalChecksInOrder : Obligations.GeneralChecksInOrder := by
  intro f
  refine ⟨fun h => decodeFrame_badKind (h.imp_left (congrArg BitVec.toNat)), fun hk h => decodeFrame_bare_badLength hk h,
    fun size hk h => decodeFrame_sized_badLength hk h, fun hk h => ?_, fun hk h => ?_,
    fun lane rest hp hl => ⟨fun size hk hs => decodeFrame_badLane hl hp hk hs, fun hk hcount => ?_⟩, fun set rest hp hs h => ?_,
    fun arg hk hp ha => ?_⟩
  · rw [decodeFrame_of hk rfl]
    exact decodeEnqueue_badLength h
  · rw [decodeFrame_of hk rfl]
    exact decodeAppendSeq_badLength h
  · obtain ⟨count, tail, rfl, h1, h8, hlength⟩ := hcount
    rw [decodeFrame_of hk hp]
    exact decodeEnqueue_badLane hl h1 h8 hlength
  · rw [hp] at h
    rcases h with ⟨hk, hlength⟩ | ⟨hk, hlength⟩
    · rw [decodeFrame_of hk hp]
      exact decodeStart_badLane hs rest (Nat.succ.inj hlength)
    · rw [decodeFrame_of hk hp]
      exact decodeAbort_badLane hs rest (Nat.succ.inj hlength)
  · rw [decodeFrame_of hk hp]
    exact if_pos ⟨rfl, ha⟩

end Sys2Proof.Proofs

/-! PROOFS. The Command Processor (R157 to R163): the take of a frame, its completion, and the two commands that only answer. -/

namespace Sys2Proof.Machine

open Sys2Proof.Spec

variable {s : State}

/-! ### The take of a frame (R157 to R160) -/

/-- A free choice that is drawn changes the model's own choices alone (log entry 3). -/
theorem draw_eq (s : State) : s.draw.2 = { s with choices := s.draw.2.choices, draws := s.draw.2.draws } := by
  unfold State.draw
  split <;> rfl

/-- An instant chosen within a bound is no sooner than now and no later than the bound (R159). -/
theorem chosen_within (now choice bound : Nat) : now ≤ now + choice % (bound + 1) ∧ now + choice % (bound + 1) ≤ now + bound :=
  ⟨Nat.le_add_right _ _, Nat.add_le_add_left (Nat.le_of_lt_succ (Nat.mod_lt _ (Nat.succ_pos bound))) now⟩

/-- The take of the inbound head: but for the choices drawn, the head is executed and nothing else changes. -/
theorem exec_frameTake_of_due {f : Frame} {rest : List Frame} (h : s.takeDue = true) (hin : s.rx.inbound = f :: rest) :
    exec .frameTake s = .next { s with
      rx := { s.rx with inbound := rest },
      proc := .executing ⟨f, generalRefusal f, s.now + s.draw.1 % (commandBound f + 1), s.now + s.draw.2.draw.1 % (commandBound f + 1)⟩,
      choices := s.draw.2.draw.2.choices, draws := s.draw.2.draw.2.draws } := by
  change execFrameTake s = _
  rw [execFrameTake, if_pos h, hin]
  dsimp only
  rw [draw_eq s.draw.2, draw_eq s]

/-- The frame in execution has an outbound entry reserved (R158). -/
theorem held_executing {t : State} {x : Execution} (hp : s.proc = .idle) (hx : t.proc = .executing x) (htx : t.tx = s.tx) :
    t.held = s.held + 1 := by
  rw [State.held, State.held, hp, hx, htx]
  rfl

/-! ### The completion (R158, R159, R161) -/

theorem tx_offerAll_offered (s : State) : s.offerAll.tx = (offered s (inFlight s)).tx := tx_offers_congr (inFlight s) rfl rfl rfl rfl

theorem exec_commandCompletion_of_answer {x : Execution} {a : Answer} (hp : s.proc = .executing x) (ha : x.answer = some a) :
    exec .commandCompletion s = .next (State.post { s.offerAll with proc := .idle } (.reply x.frame.kind x.frame.tag a)) := by
  change execCommandCompletion s = _
  rw [execCommandCompletion, hp]
  dsimp only
  rw [ha]

theorem exec_commandCompletion_of_none {x : Execution} (hp : s.proc = .executing x) (ha : x.answer = none) :
    exec .commandCompletion s = .next s := by
  change execCommandCompletion s = _
  rw [execCommandCompletion, hp]
  dsimp only
  rw [ha]

end Sys2Proof.Machine

namespace Sys2Proof.Proofs

open Sys2Proof.Machine Sys2Proof.Spec

/-- Settles O50: the take with its two chosen instants, then the completion behind the reports in flight. -/
theorem frameTakeAndCompletion : Obligations.FrameTakeAndCompletion := by
  intro s
  refine ⟨fun f rest hphase hproc hin hroom => ?_, fun x hx => ⟨fun a ha => ?_, fun ha => exec_commandCompletion_of_none hx ha⟩⟩
  · have hdue : s.takeDue = true := (takeDue_iff s).2 ⟨hproc, by rw [hin]; exact List.cons_ne_nil f rest, hroom, hphase⟩
    obtain ⟨hevent, heventBound⟩ := chosen_within s.now s.draw.1 (commandBound f)
    obtain ⟨hcompletion, hcompletionBound⟩ := chosen_within s.now s.draw.2.draw.1 (commandBound f)
    refine ⟨_, _, _, exec_frameTake_of_due hdue hin, ?_, held_executing hproc rfl rfl, hevent, heventBound, hcompletion, hcompletionBound⟩
    rw [generalRefusal]
    cases decodeFrame f <;> rfl
  · rw [exec_commandCompletion_of_answer hx ha, ← tx_offerAll_offered, offerAll_eq]
    rfl

/-- Settles O10: each is its command's event, with an effect that answers and leaves the state. -/
theorem identifyAndPingOnlyAnswer : Obligations.IdentifyAndPingOnlyAnswer := fun _ _ =>
  ⟨fun h => command_of_awaited h identifyEffect, rfl, fun h => command_of_awaited h pingEffect⟩

end Sys2Proof.Proofs

/-! PROOFS. A step while commands and events wait in the queue: the one at its front is taken, and no other rule of the step has a say. -/

namespace Sys2Proof.Machine

/-- The queue is first in, first out: its front is run on the state that holds the others. -/
theorem step_of_front {s : State} {c : Instr} {rest : List Instr} (hp : s.pending = c :: rest) :
    step s = exec c { s with pending := rest } := by
  unfold step
  rw [hp]

end Sys2Proof.Machine

namespace Sys2Proof.Proofs

open Sys2Proof.Machine

/-- Settles O1: the general rule for a step with a front, at the state whose queue is written out. -/
theorem stepRunsTheFrontCommand : Obligations.StepRunsTheFrontCommand := fun c rest s =>
  step_of_front (s := { s with pending := c :: rest }) rfl

end Sys2Proof.Proofs
